-- ==== Sys2Proof/Word.lean ====
section
/-! DEFINITION. The word types of the CosBit-AR core: bit vectors for what the spec treats as bits. -/

namespace Sys2Proof

/-- A 32-bit word of the register port (20_memory.md R152) and a command word (30_encoding.md R200). -/
abbrev Word := BitVec 32

/-- A byte of a buffer and an element of GF(2^8) (30_encoding.md R214). -/
abbrev Byte := BitVec 8

/-- A Host byte address: 12 bits (20_memory.md R151). -/
abbrev Addr := BitVec 12

/-- A sample: 16-bit two's complement (30_encoding.md R213); `toInt` is its signed value. -/
abbrev Sample := BitVec 16

/-- An NCO phase or increment: 32 bits, wrapping (10_state.md R100, R102). -/
abbrev Phase := BitVec 32

end Sys2Proof
end

