-- ==== Sys2Proof/Syntax.lean ====
section
/-! DEFINITION. The commands of the block, one constructor per row of spec/opcode_table.json. -/

namespace Sys2Proof

/-- A command (30_encoding.md R203). No command has an operand field: every operand is implicit (R202). -/
inductive Instr where
  | nop
  | gfAdd
  | gfMul
  | gfDiv
  | gfInv
  | gfPow
  | gfExp
  | gfLog
  | polyEval
  | rsEncode
  | rsDecode
  | rsSyndrome
  | interleave
  | deinterleave
  | txSend
  | txSendRaw
  | txAbort
  | rxReset
  | softReset
deriving DecidableEq, Repr

end Sys2Proof
end

