-- ==== Sys2Proof/WellFormed.lean ====
section
/-! DEFINITION. Which command words are legal (30_encoding.md R201, R204). A command has no operand, so every
term of Instr is well formed and the checks stand on the command word. -/

namespace Sys2Proof

/-- The reserved field RSV, bits 31:8, is 0 (30_encoding.md R200). -/
def reservedClear (w : Word) : Bool := w.extractLsb' 8 24 == 0#24

/-- The opcode is one of the nineteen of 30_encoding.md R203 (the 237 others are reserved, R204). -/
def opcodeAssigned (op : Byte) : Bool :=
  [0x00#8, 0x01#8, 0x02#8, 0x03#8, 0x04#8, 0x05#8, 0x06#8, 0x07#8, 0x08#8, 0x10#8, 0x11#8, 0x12#8, 0x18#8, 0x19#8,
    0x20#8, 0x21#8, 0x22#8, 0x30#8, 0xFF#8].contains op

/-- A command word is legal if and only if RSV is 0 and its OP is assigned (30_encoding.md R201). -/
def legalWord (w : Word) : Bool := reservedClear w && opcodeAssigned (w.extractLsb' 0 8)

/-- Every command is well formed: none has an operand that could be out of range (30_encoding.md R202). -/
def Instr.wellFormed (i : Instr) : Bool :=
  match i with
  | .nop | .gfAdd | .gfMul | .gfDiv | .gfInv | .gfPow | .gfExp | .gfLog | .polyEval | .rsEncode | .rsDecode
  | .rsSyndrome | .interleave | .deinterleave | .txSend | .txSendRaw | .txAbort | .rxReset | .softReset => true

end Sys2Proof
end

