-- ==== Sys2Proof/Decode.lean ====
section
/-! DEFINITION. The decoder of command words and, after it, the encoder (30_encoding.md R200 to R205). -/

namespace Sys2Proof

/-- Why a command word is illegal; either way the block records ILLEGAL_CMD (30_encoding.md R204). -/
inductive DecodeError where
  /-- RSV (bits 31:8) is not 0. -/
  | reservedBits
  /-- OP is one of the 237 reserved values. -/
  | reservedOpcode
deriving DecidableEq, Repr

/-- OP, bits 7:0 of a command word (30_encoding.md R200). -/
def opField (w : Word) : Byte := w.extractLsb' 0 8

/-- RSV, bits 31:8 of a command word (30_encoding.md R200). -/
def rsvField (w : Word) : BitVec 24 := w.extractLsb' 8 24

/-- The opcode map of 30_encoding.md R203. -/
def decodeOp (op : Byte) : Option Instr :=
  if op = 0x00#8 then some .nop
  else if op = 0x01#8 then some .gfAdd
  else if op = 0x02#8 then some .gfMul
  else if op = 0x03#8 then some .gfDiv
  else if op = 0x04#8 then some .gfInv
  else if op = 0x05#8 then some .gfPow
  else if op = 0x06#8 then some .gfExp
  else if op = 0x07#8 then some .gfLog
  else if op = 0x08#8 then some .polyEval
  else if op = 0x10#8 then some .rsEncode
  else if op = 0x11#8 then some .rsDecode
  else if op = 0x12#8 then some .rsSyndrome
  else if op = 0x18#8 then some .interleave
  else if op = 0x19#8 then some .deinterleave
  else if op = 0x20#8 then some .txSend
  else if op = 0x21#8 then some .txSendRaw
  else if op = 0x22#8 then some .txAbort
  else if op = 0x30#8 then some .rxReset
  else if op = 0xFF#8 then some .softReset
  else none

/-- Decoding is total: every 32-bit word is one command or illegal (30_encoding.md R201). -/
def decode (w : Word) : Except DecodeError Instr :=
  if rsvField w = 0#24 then
    match decodeOp (opField w) with
    | some i => .ok i
    | none => .error .reservedOpcode
  else .error .reservedBits

/-- The opcode of a command (30_encoding.md R203). -/
def encodeOp (i : Instr) : Byte :=
  match i with
  | .nop => 0x00#8
  | .gfAdd => 0x01#8
  | .gfMul => 0x02#8
  | .gfDiv => 0x03#8
  | .gfInv => 0x04#8
  | .gfPow => 0x05#8
  | .gfExp => 0x06#8
  | .gfLog => 0x07#8
  | .polyEval => 0x08#8
  | .rsEncode => 0x10#8
  | .rsDecode => 0x11#8
  | .rsSyndrome => 0x12#8
  | .interleave => 0x18#8
  | .deinterleave => 0x19#8
  | .txSend => 0x20#8
  | .txSendRaw => 0x21#8
  | .txAbort => 0x22#8
  | .rxReset => 0x30#8
  | .softReset => 0xFF#8

/-- The command word: RSV 0 above OP (30_encoding.md R200). -/
def encode (i : Instr) : Word := 0#24 ++ encodeOp i

/-- The instruction the decoder reads from the table's bits: a command is one 32-bit word (30_encoding.md R205),
written to CMD as it stands, so there is no byte order to lay out. -/
def decodeTableWord (nbits w : Nat) : Option Instr :=
  if w % 2 ^ nbits < 2 ^ 32 then
    match decode (BitVec.ofNat 32 (w % 2 ^ nbits)) with
    | .ok i => some i
    | .error _ => none
  else none

end Sys2Proof
end

