-- ==== Sys2Proof/Config.lean ====
section
/-! DEFINITION. The fixed parameters of 00_scope.md R10 and the parameters the spec leaves open. -/

namespace Sys2Proof.Config

/-- K: data bytes per packet (R10). -/
def dataBytes : Nat := 48

/-- NPKT: codeword bytes (R10). -/
def packetBytes : Nat := 64

/-- NSYM: parity bytes (R10). -/
def parityBytes : Nat := 16

/-- T: correctable byte errors (R10). -/
def correctable : Nat := 8

/-- The sync word (R10, 43_framer.md R450). -/
def syncWord : BitVec 16 := 0x299F#16

/-- Frame length in bits (R10). -/
def frameBits : Nat := 528

/-- MARK tone in Hz, sent for a bit 1 (R10, 44_modulator.md R500). -/
def markHz : Nat := 2000

/-- SPACE tone in Hz, sent for a bit 0 (R10, 44_modulator.md R500). -/
def spaceHz : Nat := 1200

/-- BAUD: symbols a second (R10, 44_modulator.md R501). -/
def baud : Nat := 600

/-- P: timing candidates (R10). -/
def candidates : Nat := 8

/-- Depth of each sample FIFO (R10). -/
def fifoDepth : Nat := 1024

/-- The lowest legal SAMPLE_RATE (10_state.md R68). -/
def minRate : Nat := 8000

/-- The highest legal SAMPLE_RATE (10_state.md R68). -/
def maxRate : Nat := 192000

/-- SAMPLE_RATE after reset (10_state.md R68, R120). -/
def resetRate : Word := 44100#32

/-- The highest legal LOCK_RATIO (10_state.md R70). -/
def maxLockRatio : Nat := 8

/-- The ID register's constant (10_state.md R61). -/
def idConstant : Word := 0x43424152#32

/-- BASE_ADDR, the platform's choice (20_memory.md R158, decision D47): uninterpreted, so nothing can be
proved of its value. Log entry 7. -/
opaque baseAddr : Nat

/-- LOG[0], which 40_gf_arith.md R302 calls undefined and no rule reads: uninterpreted. Log entry 6. -/
opaque logOfZero : Nat

end Sys2Proof.Config
end

