-- ==== Sys2Proof/Machine/State.lean ====
section
/-! DEFINITION. The machine's state (10_state.md), the reasons a step can stop, and the state after reset
(10_state.md R120). -/

namespace Sys2Proof.Machine

/-- ERR.CODE: the codes of 60_exceptions.md R700 ("no other value is ever recorded"). -/
inductive ErrCode where
  | none
  | illegalCmd
  | txBusy
  | gfDomain
  | configBusy
  | badValue
  | roWrite
  | unmapped
  | rxDisabled
deriving DecidableEq, Repr

/-- The ERR register (10_state.md R65). -/
structure ErrReg where
  code : ErrCode
  multi : Bool
deriving DecidableEq, Repr

/-- The seven events, in the bit order of IRQ_STATUS (10_state.md R66, 60_exceptions.md R710). -/
inductive Event where
  | rxDelivered
  | rxFailed
  | rxOverrun
  | txDone
  | txUnderrun
  | err
  | rxLost
deriving DecidableEq, Repr

/-- REASON of a decode: 0 NONE, 1 LOCATOR_TOO_LONG, 2 ROOT_MISMATCH, 3 VERIFY (10_state.md R74, 41_rs_codec.md R365). -/
inductive FailReason where
  | none
  | locatorTooLong
  | rootMismatch
  | verify
deriving DecidableEq, Repr

/-- RS_RESULT (10_state.md R74). -/
structure RsResult where
  ok : Bool
  count : BitVec 4
  reason : FailReason
deriving DecidableEq, Repr

/-- RX_RESULT (10_state.md R75). -/
structure RxResult where
  valid : Bool
  ok : Bool
  count : BitVec 4
  reason : FailReason
  lost : Bool
deriving DecidableEq, Repr

/-- RX_CFG (10_state.md R70). -/
structure RxCfg where
  syncTol : BitVec 2
  lockRatio : BitVec 4
deriving DecidableEq, Repr

/-- The TX engine's state (10_state.md R100); `aout` is the AOUT FIFO, oldest sample first. -/
structure TxEngine where
  active : Bool
  k : Nat
  phi : Phase
  sacc : Nat
  inc1 : Phase
  inc0 : Phase
  aout : List Sample
deriving DecidableEq, Repr

/-- Four integers, one per correlator: a product tuple of the delay line or the four window sums
(10_state.md R102, 45_demodulator.md R552, R553). -/
structure Quad where
  mi : Int
  mq : Int
  si : Int
  sq : Int
deriving DecidableEq, Repr

/-- The demodulator front end (10_state.md R102); `n` is rx.N. -/
structure FrontEnd where
  n : Nat
  incM : Phase
  incS : Phase
  psiM : Phase
  psiS : Phase
  dl : List Quad
  dpos : Nat
  acc : Quad
deriving DecidableEq, Repr

/-- One timing candidate (10_state.md R103). -/
structure Candidate where
  sr : BitVec 16
  fill : Nat
  ah : Vector Nat 16
  th : Vector Nat 16
  hpos : Fin 16
deriving DecidableEq, Repr

/-- rx.state (10_state.md R104). -/
inductive RxState where
  | idle
  | search
  | confirm
  | payload
deriving DecidableEq, Repr

/-- The pipeline controller (10_state.md R104). -/
structure Controller where
  state : RxState
  confBest : Fin 8
  confScore : Nat
  confLeft : Nat
  lock : Fin 8
  pbits : Vector Bool 512
  pcount : Fin 512
deriving DecidableEq, Repr

/-- The RX engine's state (10_state.md R101 to R104); `ain` is the AIN FIFO, oldest sample first. -/
structure RxEngine where
  ain : List Sample
  samples : BitVec 32
  fe : FrontEnd
  pacc : Nat
  cidx : Fin 8
  cands : Vector Candidate 8
  ctl : Controller
deriving DecidableEq, Repr

/-- The bytes of the host address space (20_memory.md R150) that differ from what an unlisted address reads as, by
rising address. -/
abbrev Memory := List Host.Cell

/-- What an unlisted byte reads as: every buffer byte is 0x00 after reset (10_state.md R120). -/
def Memory.unlisted : Byte := 0x00#8

/-- One turn of an agent (20_memory.md R170: each step is a Host access, a TX engine step or an RX engine step) or
the platform's reset input (70_reset_and_hazards.md R750). -/
inductive Action where
  | write (a : Addr) (v : Word)
  | read (a : Addr)
  | txTurn
  | rxTurn
  | hardReset
deriving DecidableEq, Repr

/-- The whole block as one state (20_memory.md R170), and with it two fields of the model's own that stand for what
is outside the block: `schedule`, the turns still to come, next first (log entry 1), and `reads`, the words the Host's
reads have returned, newest first (log entry 2). -/
structure State where
  /-- CTRL.RX_EN (R62). -/
  rxEn : Bool
  /-- ERR (R65). -/
  err : ErrReg
  /-- IRQ_STATUS bits 6:0 (R66). -/
  irqStatus : BitVec 7
  /-- IRQ_ENABLE bits 6:0 (R67). -/
  irqEnable : BitVec 7
  /-- SAMPLE_RATE.FS (R68). -/
  sampleRate : Word
  /-- RX_CFG (R70). -/
  rxCfg : RxCfg
  /-- GF_A (R71). -/
  gfA : Byte
  /-- GF_B (R72). -/
  gfB : Byte
  /-- GF_R (R73). -/
  gfR : Byte
  /-- RS_RESULT (R74). -/
  rsResult : RsResult
  /-- RX_RESULT (R75). -/
  rxResult : RxResult
  /-- RX_STATS0.SYNC_CNT (R76). -/
  syncCnt : BitVec 16
  /-- RX_STATS0.TRUNC_CNT (R76). -/
  truncCnt : BitVec 16
  /-- RX_STATS1.DELIV_CNT (R77). -/
  delivCnt : BitVec 16
  /-- RX_STATS1.FAIL_CNT (R77). -/
  failCnt : BitVec 16
  /-- RX_OVR.OVERRUN_CNT (R78). -/
  overrunCnt : BitVec 16
  /-- The TX engine and the AOUT FIFO (R100). -/
  tx : TxEngine
  /-- The RX engine and the AIN FIFO (R101 to R104). -/
  rx : RxEngine
  /-- The bytes of the seven buffers (R90 to R96). -/
  mem : Memory
  /-- The model's own: the turns still to come. -/
  schedule : List Action
  /-- The model's own: what the Host's reads have returned. -/
  reads : List Word
deriving DecidableEq, Repr

/-- Nothing stops this machine: an error is recorded and the access completes, there is no trap and no fatal error
(60_exceptions.md R702), so there is no fault to name. -/
inductive Fault where
deriving DecidableEq, Repr

/-- The one refusal the interface asks for. -/
inductive Refusal where
  /-- Raised by exec's arm of a command that has no meaning yet (safe: the model stops where the hardware goes on);
  no arm raises it. -/
  | notModelled (mnemonic : String)
deriving DecidableEq, Repr

/-- Four zeros. -/
def Quad.zero : Quad := { mi := 0, mq := 0, si := 0, sq := 0 }

/-- A timing candidate after reset (10_state.md R103) and at session start (46_rx_controller.md R602). -/
def Candidate.reset : Candidate :=
  { sr := 0#16, fill := 0, ah := Vector.replicate 16 0, th := Vector.replicate 16 0, hpos := 0 }

/-- The TX engine after reset (10_state.md R100). -/
def TxEngine.reset : TxEngine :=
  { active := false, k := 0, phi := 0#32, sacc := 0, inc1 := 0#32, inc0 := 0#32, aout := [] }

/-- The RX engine after reset (10_state.md R101 to R104). -/
def RxEngine.reset : RxEngine :=
  { ain := [], samples := 0#32,
    fe := { n := 0, incM := 0#32, incS := 0#32, psiM := 0#32, psiS := 0#32, dl := [], dpos := 0, acc := Quad.zero },
    pacc := 0, cidx := 0, cands := Vector.replicate 8 Candidate.reset,
    ctl := { state := .idle, confBest := 0, confScore := 0, confLeft := 0, lock := 0,
             pbits := Vector.replicate 512 false, pcount := 0 } }

/-- The state after reset: the table of 10_state.md R120. Nothing is scheduled and nothing has been read. -/
def State.reset : State :=
  { rxEn := false, err := { code := .none, multi := false }, irqStatus := 0#7, irqEnable := 0#7,
    sampleRate := Config.resetRate, rxCfg := { syncTol := 0#2, lockRatio := 5#4 },
    gfA := 0#8, gfB := 0#8, gfR := 0#8,
    rsResult := { ok := false, count := 0#4, reason := .none },
    rxResult := { valid := false, ok := false, count := 0#4, reason := .none, lost := false },
    syncCnt := 0#16, truncCnt := 0#16, delivCnt := 0#16, failCnt := 0#16, overrunCnt := 0#16,
    tx := TxEngine.reset, rx := RxEngine.reset, mem := [], schedule := [], reads := [] }

end Sys2Proof.Machine
end

