-- ==== Sys2Proof/Machine/Ops.lean ====
section
/-! DEFINITION. The shared operations: bytes of memory, the buffers, recording an error, signalling an event,
saturating counters, small integer helpers. -/

namespace Sys2Proof.Machine

/-! ### Bytes of memory -/

/-- The byte at an address; an unlisted address reads `Memory.unlisted`. -/
def Memory.read (m : Memory) (a : Nat) : Byte :=
  match m with
  | [] => Memory.unlisted
  | (b, v) :: r => if b = a then v else Memory.read r a

/-- Put one byte; writing what an unlisted address reads as removes the entry, so equal memories are equal lists. -/
def Memory.write (m : Memory) (a : Nat) (v : Byte) : Memory :=
  match m with
  | [] => if v = Memory.unlisted then [] else [(a, v)]
  | (b, w) :: r =>
    if a < b then (if v = Memory.unlisted then (b, w) :: r else (a, v) :: (b, w) :: r)
    else if a = b then (if v = Memory.unlisted then r else (a, v) :: r)
    else (b, w) :: Memory.write r a v

/-- Put a run of bytes at rising addresses. -/
def Memory.writeBytes (m : Memory) (a : Nat) (bytes : List Byte) : Memory :=
  match bytes with
  | [] => m
  | v :: r => Memory.writeBytes (Memory.write m a v) (a + 1) r

/-- The canonical form: addresses strictly rising and no entry equal to what an unlisted address reads as. -/
def Memory.wf (m : Memory) : Bool :=
  match m with
  | [] => true
  | (a, v) :: r => v != Memory.unlisted && r.all (fun c => decide (a < c.1)) && Memory.wf r

/-! ### The buffers -/

/-- The seven buffers (10_state.md R90 to R96). -/
inductive Buf where
  | msg
  | cw
  | syn
  | txf
  | rxRaw
  | rxCw
  | rxData
deriving DecidableEq, Repr

/-- A buffer's base address (20_memory.md R157). -/
def Buf.base (b : Buf) : Nat :=
  match b with
  | .msg => 0x100
  | .cw => 0x140
  | .syn => 0x180
  | .txf => 0x200
  | .rxRaw => 0x280
  | .rxCw => 0x2C0
  | .rxData => 0x300

/-- A buffer's length in bytes (20_memory.md R157). -/
def Buf.size (b : Buf) : Nat :=
  match b with
  | .msg => 48
  | .cw => 64
  | .syn => 16
  | .txf => 66
  | .rxRaw => 64
  | .rxCw => 64
  | .rxData => 48

/-- Whether the Host may write the buffer (20_memory.md R157: MSG and CW are RW, the others RO). -/
def Buf.writable (b : Buf) : Bool :=
  match b with
  | .msg | .cw => true
  | .syn | .txf | .rxRaw | .rxCw | .rxData => false

/-- `buf.B[i]` (00_scope.md R14); past the buffer's end it reads 0 (20_memory.md R153). -/
def State.bufByte (s : State) (b : Buf) (i : Nat) : Byte :=
  if i < b.size then s.mem.read (b.base + i) else 0x00#8

/-- The bytes of a buffer in index order. -/
def State.bufBytes (s : State) (b : Buf) : List Byte := (List.range b.size).map (s.bufByte b)

/-- Write a buffer from its first byte. A run longer than the buffer is cut to it. -/
def State.setBuf (s : State) (b : Buf) (bytes : List Byte) : State :=
  { s with mem := s.mem.writeBytes b.base (bytes.take b.size) }

/-! ### Errors and events -/

/-- An event's bit of IRQ_STATUS (60_exceptions.md R710). -/
def Event.bit (e : Event) : Nat :=
  match e with
  | .rxDelivered => 0
  | .rxFailed => 1
  | .rxOverrun => 2
  | .txDone => 3
  | .txUnderrun => 4
  | .err => 5
  | .rxLost => 6

/-- The value of IRQ_STATUS with only this event's bit. -/
def Event.mask (e : Event) : BitVec 7 := 1#7 <<< e.bit

/-- `event(NAME)`: set the event's bit; it stays set if it was (60_exceptions.md R710). -/
def State.signal (s : State) (e : Event) : State := { s with irqStatus := s.irqStatus ||| e.mask }

/-- ERR after an error: the first error since the last clear is kept, a later one only sets MULTI
(60_exceptions.md R701). -/
def ErrReg.record (r : ErrReg) (c : ErrCode) : ErrReg :=
  if r.code = .none then { r with code := c } else { r with multi := true }

/-- `raise Error(c)`: record the code, then `event(ERR)`. This is all an error does: there is no trap, no saved
program counter and no return (60_exceptions.md R701, R702, R713). -/
def State.raiseError (s : State) (c : ErrCode) : State := State.signal { s with err := s.err.record c } .err

/-! ### Small helpers -/

/-- A 16-bit counter plus one, saturating at 0xFFFF (00_scope.md R12 `sat16`, 10_state.md R76). -/
def sat16Succ (c : BitVec 16) : BitVec 16 := if c = 0xFFFF#16 then c else c + 1#16

/-- `asr(v, n)`: floor of v / 2^n (00_scope.md R12). -/
def asr (v : Int) (n : Nat) : Int := v / (2 ^ n)

/-- The number of 1 bits (00_scope.md R12). -/
def popcount16 (v : BitVec 16) : Nat := (List.range 16).countP (fun i => v.getLsbD i)

/-- Entry i of a table written as rows of sixteen, as the spec prints its tables. -/
def rowEntry {α : Type} (rows : List (List α)) (i : Nat) (d : α) : α := (rows.getD (i / 16) []).getD (i % 16) d

/-- A byte from its eight bits, most significant first (30_encoding.md R210). -/
def byteOfBits (bits : List Bool) : Byte := BitVec.ofNat 8 (bits.foldl (fun acc b => 2 * acc + b.toNat) 0)

end Sys2Proof.Machine
end

