-- ==== Sys2Proof/Machine/Operands.lean ====
section
/-! DEFINITION. The operands of the commands: all implicit (30_encoding.md R202). -/

namespace Sys2Proof.Machine

/-- GF_A[7:0] as a field element (10_state.md R71). -/
def State.elementA (s : State) : Byte := s.gfA

/-- GF_B[7:0] as a field element (10_state.md R72). -/
def State.elementB (s : State) : Byte := s.gfB

/-- GF_A[7:0] as an exponent 0..255 (10_state.md R71, GF_EXP). -/
def State.exponentA (s : State) : Nat := s.gfA.toNat

/-- GF_B[7:0] as an exponent 0..255 (10_state.md R72, GF_POW). -/
def State.exponentB (s : State) : Nat := s.gfB.toNat

/-- MSG[0..47] (10_state.md R90). -/
def State.message (s : State) : List Byte := s.bufBytes .msg

/-- CW[0..63] (10_state.md R91). -/
def State.codeword (s : State) : List Byte := s.bufBytes .cw

/-- `reg.GF_R <- v` (10_state.md R73). -/
def State.setResult (s : State) (v : Byte) : State := { s with gfR := v }

/-- SAMPLE_RATE as a number of hertz (10_state.md R68). -/
def State.fs (s : State) : Nat := s.sampleRate.toNat

end Sys2Proof.Machine
end

