-- ==== Sys2Proof/Machine/Control.lean ====
section
/-! DEFINITION. The control commands NOP and SOFT_RESET (47_register_access.md R665, R666) and the reset action. -/

namespace Sys2Proof.Machine

/-- The reset action (70_reset_and_hazards.md R750): everything the block holds takes its reset value. What is outside
the block stays: the turns still to come and the words the Host has read (log entry 9). -/
def State.resetBlock (s : State) : State := { State.reset with schedule := s.schedule, reads := s.reads }

/-- NOP (47_register_access.md R665). -/
def execNop (s : State) : Host.Outcome State Fault Refusal := .next s

/-- SOFT_RESET (47_register_access.md R666). -/
def execSoftReset (s : State) : Host.Outcome State Fault Refusal := .next s.resetBlock

end Sys2Proof.Machine
end

