-- ==== Sys2Proof/Machine/Interleaver.lean ====
section
/-! DEFINITION. The byte interleaver and de-interleaver (42_interleave.md). -/

namespace Sys2Proof.Machine

/-- `t[q] = c[8·(q mod 8) + floor(q/8)]` (42_interleave.md R401). -/
def interleave (c : List Byte) : List Byte := (List.range 64).map (fun q => c.getD (8 * (q % 8) + q / 8) 0#8)

/-- `c[8·r + col] = t[8·col + r]` (42_interleave.md R402). -/
def deinterleave (t : List Byte) : List Byte :=
  (List.range 64).map (fun p => let r := p / 8; let col := p % 8; t.getD (8 * col + r) 0#8)

/-- INTERLEAVE (42_interleave.md R410). -/
def execInterleave (s : State) : Host.Outcome State Fault Refusal := .next (s.setBuf .cw (interleave s.codeword))

/-- DEINTERLEAVE (42_interleave.md R411). -/
def execDeinterleave (s : State) : Host.Outcome State Fault Refusal := .next (s.setBuf .cw (deinterleave s.codeword))

end Sys2Proof.Machine
end

