-- ==== Sys2Proof/Machine/Gf.lean ====
section
/-! DEFINITION. GF(2^8) arithmetic and polynomial evaluation (40_gf_arith.md). -/

namespace Sys2Proof.Machine

/-- `a (+) b` (40_gf_arith.md R301). -/
def gfAdd (a b : Byte) : Byte := a ^^^ b

/-- `a (x) b` (40_gf_arith.md R303). -/
def gfMul (a b : Byte) : Byte := if a = 0#8 ∨ b = 0#8 then 0#8 else gfExp (gfLog a + gfLog b)

/-- `inv(a)` for `a ≠ 0` (40_gf_arith.md R304); every caller tests for 0 first. -/
def gfInverse (a : Byte) : Byte := gfExp (255 - gfLog a)

/-- `a (/) b` for `b ≠ 0` (40_gf_arith.md R305); every caller tests for 0 first. The exponent is
`LOG[a] - LOG[b]` plus one whole turn, so that it is not negative. -/
def gfDivide (a b : Byte) : Byte := if a = 0#8 then 0#8 else gfExp (gfLog a + 255 - gfLog b)

/-- `a^e` (40_gf_arith.md R306), with `0^0 = 0x01`. -/
def gfPower (a : Byte) (e : Nat) : Byte := if e = 0 then 0x01#8 else if a = 0#8 then 0#8 else gfExp (gfLog a * e)

/-- Horner's rule over a coefficient list, highest power first (40_gf_arith.md R317). -/
def polyEval (c : List Byte) (x : Byte) : Byte := c.foldl (fun y a => gfAdd (gfMul y x) a) 0#8

/-- A command that has no result for these operands: GF_R becomes 0 and GF_DOMAIN is recorded (decision D35). -/
def State.gfDomainError (s : State) : State := State.raiseError (s.setResult 0#8) .gfDomain

/-- GF_ADD (40_gf_arith.md R310). -/
def execGfAdd (s : State) : Host.Outcome State Fault Refusal := .next (s.setResult (gfAdd s.elementA s.elementB))

/-- GF_MUL (40_gf_arith.md R311). -/
def execGfMul (s : State) : Host.Outcome State Fault Refusal := .next (s.setResult (gfMul s.elementA s.elementB))

/-- GF_DIV (40_gf_arith.md R312). -/
def execGfDiv (s : State) : Host.Outcome State Fault Refusal :=
  .next (if s.elementB = 0#8 then s.gfDomainError else s.setResult (gfDivide s.elementA s.elementB))

/-- GF_INV (40_gf_arith.md R313). -/
def execGfInv (s : State) : Host.Outcome State Fault Refusal :=
  .next (if s.elementA = 0#8 then s.gfDomainError else s.setResult (gfInverse s.elementA))

/-- GF_POW (40_gf_arith.md R314). -/
def execGfPow (s : State) : Host.Outcome State Fault Refusal := .next (s.setResult (gfPower s.elementA s.exponentB))

/-- GF_EXP (40_gf_arith.md R315). -/
def execGfExp (s : State) : Host.Outcome State Fault Refusal := .next (s.setResult (gfExp s.exponentA))

/-- GF_LOG (40_gf_arith.md R316). -/
def execGfLog (s : State) : Host.Outcome State Fault Refusal :=
  .next (if s.elementA = 0#8 then s.gfDomainError else s.setResult (BitVec.ofNat 8 (gfLog s.elementA)))

/-- POLY_EVAL (40_gf_arith.md R317). -/
def execPolyEval (s : State) : Host.Outcome State Fault Refusal :=
  .next (s.setResult (polyEval s.codeword s.elementA))

end Sys2Proof.Machine
end

