-- ==== Sys2Proof/Machine/ReedSolomon.lean ====
section
/-! DEFINITION. The Reed-Solomon RS(64,48) codec (41_rs_codec.md). A byte list read as a codeword has its highest
power first (R351); a locator's list is indexed by power (R361). -/

namespace Sys2Proof.Machine

/-- One turn of the division register for one message byte (41_rs_codec.md R353). -/
def rsShift (rem : List Byte) (m : Byte) : List Byte :=
  let fb := gfAdd m (rem.getD 0 0#8)
  List.zipWith gfAdd (rem.tail ++ [0#8]) (rsGenerator.tail.map (gfMul fb))

/-- The 16 parity bytes of a message (41_rs_codec.md R353). -/
def rsParity (m : List Byte) : List Byte := m.foldl rsShift (List.replicate 16 0#8)

/-- `rs_encode`: the message, then its parity (41_rs_codec.md R353). -/
def rsEncode (m : List Byte) : List Byte := m ++ rsParity m

/-- `S_j` of a received word (41_rs_codec.md R360). -/
def syndrome (r : List Byte) (j : Nat) : Byte := polyEval r (gfExp j)

/-- S_0..S_15 (41_rs_codec.md R360). -/
def syndromes (r : List Byte) : List Byte := (List.range 16).map (syndrome r)

/-- The variables of the Berlekamp-Massey iteration (41_rs_codec.md R361): locators of 17 coefficients. -/
structure BmState where
  lam : List Byte
  prev : List Byte
  len : Nat
  m : Nat
  b : Byte
deriving DecidableEq, Repr

/-- The start of the iteration (41_rs_codec.md R361): Lam = 1, B = 1, L = 0, m = 1, b = 0x01. -/
def bmStart : BmState :=
  { lam := 1#8 :: List.replicate 16 0#8, prev := 1#8 :: List.replicate 16 0#8, len := 0, m := 1, b := 1#8 }

/-- `(+)` over a list. -/
def gfSum (l : List Byte) : Byte := l.foldl gfAdd 0#8

/-- The discrepancy delta of turn r (41_rs_codec.md R361). -/
def bmDelta (syn : List Byte) (st : BmState) (r : Nat) : Byte :=
  gfAdd (syn.getD r 0#8)
    (gfSum ((List.range st.len).map (fun i => gfMul (st.lam.getD (i + 1) 0#8) (syn.getD (r - (i + 1)) 0#8))))

/-- `Lam (+) (delta (/) b)·x^m·B`, without the terms beyond degree 16 (41_rs_codec.md R361). -/
def bmUpdate (st : BmState) (delta : Byte) : List Byte :=
  List.zipWith gfAdd st.lam ((List.replicate st.m 0#8 ++ st.prev.map (gfMul (gfDivide delta st.b))).take 17)

/-- One turn of the iteration (41_rs_codec.md R361). -/
def bmTurn (syn : List Byte) (st : BmState) (r : Nat) : BmState :=
  let delta := bmDelta syn st r
  if delta = 0#8 then { st with m := st.m + 1 }
  else if 2 * st.len ≤ r then
    { lam := bmUpdate st delta, prev := st.lam, len := r + 1 - st.len, m := 1, b := delta }
  else { st with lam := bmUpdate st delta, m := st.m + 1 }

/-- The locator and its length after the 16 turns (41_rs_codec.md R361). -/
def berlekampMassey (syn : List Byte) : BmState := (List.range 16).foldl (bmTurn syn) bmStart

/-- `alpha^((255 - d) mod 255)`, the inverse locator of degree d (41_rs_codec.md R363). -/
def inverseLocator (d : Nat) : Byte := gfExp ((255 - d) % 255)

/-- A polynomial indexed by power, evaluated at a point. -/
def locatorEval (lam : List Byte) (x : Byte) : Byte := polyEval lam.reverse x

/-- The error degrees in increasing order (41_rs_codec.md R363). -/
def chienSearch (lam : List Byte) : List Nat :=
  (List.range 64).filter (fun d => locatorEval lam (inverseLocator d) = 0#8)

/-- Om[0..15], that is S(x)·Lam(x) mod x^16 (41_rs_codec.md R364). -/
def errorEvaluator (syn : List Byte) (lam : List Byte) (len : Nat) : List Byte :=
  (List.range 16).map (fun i =>
    gfSum ((List.range (min i len + 1)).map (fun j => gfMul (syn.getD (i - j) 0#8) (lam.getD j 0#8))))

/-- `dLam(Y)`, the formal derivative of the locator (41_rs_codec.md R364). -/
def locatorDerivative (lam : List Byte) (len : Nat) (y : Byte) : Byte :=
  gfSum (((List.range (len + 1)).filter (fun i => i % 2 = 1)).map (fun i => gfMul (lam.getD i 0#8) (gfPower y (i - 1))))

/-- The error value of degree d by Forney's formula; none where R364 fails with VERIFY (41_rs_codec.md R364). -/
def errorValue (om lam : List Byte) (len d : Nat) : Option Byte :=
  let y := inverseLocator d
  let dl := locatorDerivative lam len y
  if dl = 0#8 then none
  else
    let e := gfMul (gfExp d) (gfDivide (locatorEval om y) dl)
    if e = 0#8 then none else some e

/-- `r'[63-d] <- r[63-d] (+) e` for each error degree in order (41_rs_codec.md R364). -/
def correctErrors (om lam : List Byte) (len : Nat) (degrees : List Nat) (r : List Byte) : Option (List Byte) :=
  match degrees with
  | [] => some r
  | d :: ds =>
    match errorValue om lam len d with
    | none => none
    | some e => correctErrors om lam len ds (r.set (63 - d) (gfAdd (r.getD (63 - d) 0#8) e))

/-- The outcome of `rs_decode` (41_rs_codec.md R365). -/
inductive RsOutcome where
  | success (data cw : List Byte) (count : Nat)
  | uncorrectable (reason : FailReason)
deriving DecidableEq, Repr

/-- `Success` with the data bytes of the corrected word (41_rs_codec.md R365). -/
def RsOutcome.ofWord (cw : List Byte) (count : Nat) : RsOutcome := .success (cw.take 48) cw count

/-- `rs_decode` (41_rs_codec.md R360 to R365): the first failing test gives the reason. -/
def rsDecode (r : List Byte) : RsOutcome :=
  let syn := syndromes r
  if syn.all (· == 0#8) then RsOutcome.ofWord r 0
  else
    let bm := berlekampMassey syn
    if bm.len > 8 then .uncorrectable .locatorTooLong
    else
      let degrees := chienSearch bm.lam
      if degrees.length ≠ bm.len then .uncorrectable .rootMismatch
      else
        match correctErrors (errorEvaluator syn bm.lam bm.len) bm.lam bm.len degrees r with
        | none => .uncorrectable .verify
        | some r' => if (syndromes r').all (· == 0#8) then RsOutcome.ofWord r' bm.len else .uncorrectable .verify

/-- RS_ENCODE (41_rs_codec.md R370). -/
def execRsEncode (s : State) : Host.Outcome State Fault Refusal := .next (s.setBuf .cw (rsEncode s.message))

/-- RS_SYNDROME (41_rs_codec.md R371). -/
def execRsSyndrome (s : State) : Host.Outcome State Fault Refusal := .next (s.setBuf .syn (syndromes s.codeword))

/-- What RS_DECODE commits once SYN is written (41_rs_codec.md R372). -/
def State.commitDecode (s : State) (o : RsOutcome) : State :=
  match o with
  | .success data cw count =>
    { (s.setBuf .cw cw).setBuf .msg data with rsResult := { ok := true, count := BitVec.ofNat 4 count, reason := .none } }
  | .uncorrectable reason =>
    { s.setBuf .msg (List.replicate 48 0#8) with rsResult := { ok := false, count := 0#4, reason := reason } }

/-- RS_DECODE (41_rs_codec.md R372). -/
def execRsDecode (s : State) : Host.Outcome State Fault Refusal :=
  .next (State.commitDecode (s.setBuf .syn (syndromes s.codeword)) (rsDecode s.codeword))

end Sys2Proof.Machine
end

