-- ==== Sys2Proof/Machine/Modulator.lean ====
section
/-! DEFINITION. The transmit framer (43_framer.md R450 to R452), the AFSK modulator and the TX engine
(44_modulator.md). -/

namespace Sys2Proof.Machine

/-- The 66 bytes of a frame: SYNC, high byte first, then the interleaved packet (43_framer.md R452). -/
def frameBytes (t : List Byte) : List Byte :=
  Config.syncWord.extractLsb' 8 8 :: Config.syncWord.extractLsb' 0 8 :: t

/-- Bit k of a byte string sent most significant bit first (30_encoding.md R210, 44_modulator.md R510). -/
def wireBit (bytes : List Byte) (k : Nat) : Bool := (bytes.getD (k / 8) 0#8).getLsbD (7 - k % 8)

/-- `INC(f, Fs)`, to nearest with ties up (44_modulator.md R503). -/
def ncoIncrement (f fs : Nat) : Phase := BitVec.ofNat 32 ((f * 2 ^ 32 + fs / 2) / fs)

/-- The table index of a phase: its top 8 bits (44_modulator.md R504). -/
def phaseIndex (phi : Phase) : Nat := (phi >>> 24).toNat

/-- The sample of a phase, `SINE[phi >> 24]` (44_modulator.md R504). -/
def toneSample (phi : Phase) : Sample := BitVec.ofInt 16 (sine (phaseIndex phi))

/-- The variables of the modulation loop (44_modulator.md R504). -/
structure ModState where
  k : Nat
  phi : Phase
  sacc : Nat
deriving DecidableEq, Repr

/-- The loop's variables after one sample of bit b (44_modulator.md R504). -/
def modAdvance (inc1 inc0 : Phase) (fs : Nat) (b : Bool) (m : ModState) : ModState :=
  let sacc := m.sacc + Config.baud
  { k := if fs ≤ sacc then m.k + 1 else m.k,
    phi := m.phi + (if b then inc1 else inc0),
    sacc := if fs ≤ sacc then sacc - fs else sacc }

/-- The modulation loop from given variables, for at most `fuel` samples (44_modulator.md R504). -/
def modulateFrom (f : List Bool) (fs : Nat) (fuel : Nat) (m : ModState) : List Sample :=
  match fuel with
  | 0 => []
  | n + 1 =>
    if m.k < f.length then
      toneSample m.phi ::
        modulateFrom f fs n
          (modAdvance (ncoIncrement Config.markHz fs) (ncoIncrement Config.spaceHz fs) fs (f.getD m.k false) m)
    else []

/-- The number of samples of K symbols: `ceil(K·Fs/600)` (44_modulator.md R505, R507). -/
def sampleCount (bits fs : Nat) : Nat := (bits * fs + (Config.baud - 1)) / Config.baud

/-- `modulate(f, Fs)` (44_modulator.md R504). -/
def modulate (f : List Bool) (fs : Nat) : List Sample :=
  modulateFrom f fs (sampleCount f.length fs) { k := 0, phi := 0#32, sacc := 0 }

/-- The 528 frame bits of a byte string (30_encoding.md R211). -/
def frameBitList (bytes : List Byte) : List Bool := (List.range Config.frameBits).map (wireBit bytes)

/-- Whether the TX engine may take a step (44_modulator.md R510). -/
def State.txReady (s : State) : Bool :=
  s.tx.active && decide (s.tx.k < Config.frameBits) && decide (s.tx.aout.length < Config.fifoDepth)

/-- What one TX engine step does (44_modulator.md R510). -/
def State.txAdvance (s : State) : State :=
  let b := (s.bufByte .txf (s.tx.k / 8)).getLsbD (7 - s.tx.k % 8)
  let m := modAdvance s.tx.inc1 s.tx.inc0 s.fs b { k := s.tx.k, phi := s.tx.phi, sacc := s.tx.sacc }
  { s with tx := { s.tx with aout := s.tx.aout ++ [toneSample s.tx.phi], phi := m.phi, sacc := m.sacc, k := m.k } }

/-- The TX engine's turn: a step where it may take one, otherwise none (44_modulator.md R510). -/
def State.txTurn (s : State) : State := if s.txReady then s.txAdvance else s

/-- Completion: the transmission ends when its last sample has left the block (44_modulator.md R511). -/
def State.txComplete (s : State) : State :=
  if s.tx.aout = [] ∧ s.tx.active = true ∧ s.tx.k = Config.frameBits then
    State.signal { s with tx := { s.tx with active := false } } .txDone
  else s

/-- The AOUT pop of a Host read of AOUT_DATA: the word read and the state after (44_modulator.md R512). -/
def State.popAout (s : State) : Word × State :=
  match s.tx.aout with
  | [] => (0#32, if s.tx.active then s.signal .txUnderrun else s)
  | x :: rest => (1#1 ++ 0#15 ++ x, State.txComplete { s with tx := { s.tx with aout := rest } })

/-- Load TXF with a packet's frame and start the engine (44_modulator.md R520). -/
def State.startTx (s : State) (t : List Byte) : State :=
  { s.setBuf .txf (frameBytes t) with
    tx := { s.tx with
      inc1 := ncoIncrement Config.markHz s.fs, inc0 := ncoIncrement Config.spaceHz s.fs,
      phi := 0#32, sacc := 0, k := 0, active := true } }

/-- TX_SEND (44_modulator.md R520). -/
def execTxSend (s : State) : Host.Outcome State Fault Refusal :=
  .next (if s.tx.active then s.raiseError .txBusy else s.startTx (interleave (rsEncode s.message)))

/-- TX_SEND_RAW (44_modulator.md R521). -/
def execTxSendRaw (s : State) : Host.Outcome State Fault Refusal :=
  .next (if s.tx.active then s.raiseError .txBusy else s.startTx s.codeword)

/-- TX_ABORT (44_modulator.md R522). -/
def execTxAbort (s : State) : Host.Outcome State Fault Refusal :=
  .next (if s.tx.active then { s with tx := { s.tx with aout := [], active := false } } else s)

end Sys2Proof.Machine
end

