-- ==== Sys2Proof/Machine/Demodulator.lean ====
section
/-! DEFINITION. The AFSK demodulator: tone discriminator, timing candidates, quality metric (45_demodulator.md), and
the sync detector's window (43_framer.md R455, R456). -/

namespace Sys2Proof.Machine

/-- Component-wise sum. -/
def Quad.add (a b : Quad) : Quad := { mi := a.mi + b.mi, mq := a.mq + b.mq, si := a.si + b.si, sq := a.sq + b.sq }

/-- Component-wise difference. -/
def Quad.sub (a b : Quad) : Quad := { mi := a.mi - b.mi, mq := a.mq - b.mq, si := a.si - b.si, sq := a.sq - b.sq }

/-- The products of a sample with the four references, taken before the oscillators advance (45_demodulator.md R551,
R552). -/
def FrontEnd.products (fe : FrontEnd) (x : Int) : Quad :=
  { mi := asr (x * cosine (phaseIndex fe.psiM)) 14, mq := asr (x * sine (phaseIndex fe.psiM)) 14,
    si := asr (x * cosine (phaseIndex fe.psiS)) 14, sq := asr (x * sine (phaseIndex fe.psiS)) 14 }

/-- The front end after one sample: products, oscillator advance, sliding window (45_demodulator.md R551 to R553, in
the order of R562). -/
def FrontEnd.advance (fe : FrontEnd) (x : Int) : FrontEnd :=
  let p := fe.products x
  { fe with
    psiM := fe.psiM + fe.incM, psiS := fe.psiS + fe.incS,
    acc := (fe.acc.add p).sub (fe.dl.getD fe.dpos Quad.zero),
    dl := fe.dl.set fe.dpos p,
    dpos := (fe.dpos + 1) % fe.n }

/-- EM, the MARK energy (45_demodulator.md R554). -/
def FrontEnd.markEnergy (fe : FrontEnd) : Nat := fe.acc.mi.natAbs ^ 2 + fe.acc.mq.natAbs ^ 2

/-- ES, the SPACE energy (45_demodulator.md R554). -/
def FrontEnd.spaceEnergy (fe : FrontEnd) : Nat := fe.acc.si.natAbs ^ 2 + fe.acc.sq.natAbs ^ 2

/-- D, the discriminant (45_demodulator.md R554). -/
def FrontEnd.discriminant (fe : FrontEnd) : Int := (fe.markEnergy : Int) - (fe.spaceEnergy : Int)

/-- T, the total energy (45_demodulator.md R554). -/
def FrontEnd.totalEnergy (fe : FrontEnd) : Nat := fe.markEnergy + fe.spaceEnergy

/-- The bit decision: a tie decides 0 (45_demodulator.md R558). -/
def decideBit (d : Int) : Bool := decide (0 < d)

/-- The update of the candidate that ticks: sync window, fill count, histories (45_demodulator.md R559,
43_framer.md R456). -/
def Candidate.update (c : Candidate) (d : Int) (t : Nat) : Candidate :=
  { sr := (c.sr <<< 1) ||| (BitVec.ofBool (decideBit d)).setWidth 16,
    fill := min (c.fill + 1) 16,
    ah := c.ah.set c.hpos.val d.natAbs c.hpos.isLt,
    th := c.th.set c.hpos.val t c.hpos.isLt,
    hpos := c.hpos + 1 }

/-- `A16(j)` (45_demodulator.md R560). -/
def Candidate.a16 (c : Candidate) : Nat := c.ah.toList.sum

/-- `T16(j)` (45_demodulator.md R560). -/
def Candidate.t16 (c : Candidate) : Nat := c.th.toList.sum

/-- `qual_ok(j)` (45_demodulator.md R560). -/
def Candidate.qualOk (c : Candidate) (cfg : RxCfg) : Bool :=
  decide (0 < c.t16) && decide (cfg.lockRatio.toNat * c.t16 ≤ 8 * c.a16)

/-- `match(j)` (43_framer.md R455). -/
def Candidate.syncMatch (c : Candidate) (cfg : RxCfg) : Bool :=
  decide (16 ≤ c.fill) && decide (popcount16 (c.sr ^^^ Config.syncWord) ≤ cfg.syncTol.toNat) && c.qualOk cfg

end Sys2Proof.Machine
end

