-- ==== Sys2Proof/Machine/Receiver.lean ====
section
/-! DEFINITION. The receive engine and pipeline controller (46_rx_controller.md). -/

namespace Sys2Proof.Machine

/-- The receive state at session start (46_rx_controller.md R602). -/
def RxEngine.opened (fs : Nat) : RxEngine :=
  { ain := [], samples := 0#32,
    fe := { n := fs / Config.baud, incM := ncoIncrement Config.markHz fs, incS := ncoIncrement Config.spaceHz fs,
            psiM := 0#32, psiS := 0#32, dl := List.replicate (fs / Config.baud) Quad.zero, dpos := 0,
            acc := Quad.zero },
    pacc := 0, cidx := 0, cands := Vector.replicate 8 Candidate.reset,
    ctl := { state := .search, confBest := 0, confScore := 0, confLeft := 0, lock := 0,
             pbits := Vector.replicate 512 false, pcount := 0 } }

/-- Open or re-initialise the receive session (46_rx_controller.md R602). -/
def State.openSession (s : State) : State := { s with rx := RxEngine.opened s.fs }

/-- Close the receive session (46_rx_controller.md R612). -/
def State.closeSession (s : State) : State :=
  { s with rx := { s.rx with ain := [], ctl := { s.rx.ctl with state := .idle, pcount := 0 } } }

/-- The AIN push of a Host write to AIN_DATA (46_rx_controller.md R600). -/
def State.pushAin (s : State) (v : Word) : State :=
  if s.rxEn = false then s.raiseError .rxDisabled
  else if s.rx.ain.length = Config.fifoDepth then
    State.signal { s with overrunCnt := sat16Succ s.overrunCnt } .rxOverrun
  else { s with rx := { s.rx with ain := s.rx.ain ++ [v.extractLsb' 0 16] } }

/-- `fill <- 0` for one candidate (46_rx_controller.md R611). -/
def Candidate.clearFill (c : Candidate) : Candidate := { c with fill := 0 }

/-- Every candidate's fill cleared (46_rx_controller.md R611). -/
def clearFills (v : Vector Candidate 8) : Vector Candidate 8 := Vector.ofFn (fun j => v[j].clearFill)

/-- Return to search (46_rx_controller.md R611). -/
def State.returnToSearch (s : State) : State :=
  { s with rx := { s.rx with
      cands := clearFills s.rx.cands,
      ctl := { s.rx.ctl with state := .search, pcount := 0, lock := 0, confBest := 0, confScore := 0, confLeft := 0 } } }

/-- The received packet, each byte most significant bit first (46_rx_controller.md R608, 43_framer.md R458). -/
def assemblePayload (bits : List Bool) : List Byte :=
  (List.range 64).map (fun q => byteOfBits ((List.range 8).map (fun b => bits.getD (8 * q + b) false)))

/-- RX_RESULT after a commit: LOST collects a result that was still held (46_rx_controller.md R609). -/
def RxResult.replace (old : RxResult) (ok : Bool) (count : BitVec 4) (reason : FailReason) : RxResult :=
  { valid := true, ok := ok, count := count, reason := reason, lost := old.lost || old.valid }

/-- What a decode outcome commits (46_rx_controller.md R609): `raw` as demodulated, `cw` de-interleaved. -/
def State.commitOutcome (s : State) (raw cw : List Byte) (o : RsOutcome) : State :=
  match o with
  | .success data ccw count =>
    State.signal
      { ((s.setBuf .rxRaw raw).setBuf .rxCw ccw).setBuf .rxData data with
        rxResult := s.rxResult.replace true (BitVec.ofNat 4 count) .none, delivCnt := sat16Succ s.delivCnt }
      .rxDelivered
  | .uncorrectable reason =>
    State.signal
      { ((s.setBuf .rxRaw raw).setBuf .rxCw cw).setBuf .rxData (List.replicate 48 0#8) with
        rxResult := s.rxResult.replace false 0#4 reason, failCnt := sat16Succ s.failCnt }
      .rxFailed

/-- The result commit of a received packet, with RX_LOST where it replaced a held result, then the return to search
(46_rx_controller.md R608 to R611). -/
def State.commitPacket (s : State) (raw : List Byte) : State :=
  let cw := deinterleave raw
  let s' := s.commitOutcome raw cw (rsDecode cw)
  State.returnToSearch (if s.rxResult.valid then s'.signal .rxLost else s')

/-- SEARCH, on a tick of candidate j (46_rx_controller.md R603). -/
def State.searchTick (s : State) (j : Fin 8) : State :=
  let c := s.rx.cands[j]
  if c.syncMatch s.rxCfg then
    { s with rx := { s.rx with ctl := { s.rx.ctl with state := .confirm, confBest := j, confScore := c.a16, confLeft := 7 } } }
  else s

/-- Lock (46_rx_controller.md R605). -/
def State.lockOn (s : State) : State :=
  { s with
    syncCnt := sat16Succ s.syncCnt,
    rx := { s.rx with ctl := { s.rx.ctl with state := .payload, lock := s.rx.ctl.confBest, pcount := 0 } } }

/-- CONFIRM, on a tick of candidate j (46_rx_controller.md R604). -/
def State.confirmTick (s : State) (j : Fin 8) : State :=
  let c := s.rx.cands[j]
  let better := c.syncMatch s.rxCfg && decide (s.rx.ctl.confScore < c.a16)
  let ctl : Controller := { s.rx.ctl with
    confBest := if better then j else s.rx.ctl.confBest,
    confScore := if better then c.a16 else s.rx.ctl.confScore,
    confLeft := s.rx.ctl.confLeft - 1 }
  let s' : State := { s with rx := { s.rx with ctl := ctl } }
  if ctl.confLeft = 0 then s'.lockOn else s'

/-- Loss of lock: the partial payload is abandoned (46_rx_controller.md R607). -/
def State.loseLock (s : State) : State := State.returnToSearch { s with truncCnt := sat16Succ s.truncCnt }

/-- PAYLOAD, on a tick of candidate j with decision b (46_rx_controller.md R606): store the bit, then loss of lock, the
commit of the 512th bit, or one more bit collected. -/
def State.payloadTick (s : State) (j : Fin 8) (b : Bool) : State :=
  let c := s.rx.ctl
  if j = c.lock then
    let bits := c.pbits.set c.pcount.val b c.pcount.isLt
    let s' : State := { s with rx := { s.rx with ctl := { c with pbits := bits } } }
    if s.rx.cands[c.lock].qualOk s.rxCfg = false then s'.loseLock
    else if c.pcount.val + 1 = 512 then s'.commitPacket (assemblePayload bits.toList)
    else { s with rx := { s.rx with ctl := { c with pbits := bits, pcount := c.pcount + 1 } } }
  else s

/-- The controller's action for a tick (46_rx_controller.md R601). -/
def State.controllerTick (s : State) (j : Fin 8) (b : Bool) : State :=
  match s.rx.ctl.state with
  | .idle => s
  | .search => s.searchTick j
  | .confirm => s.confirmTick j
  | .payload => s.payloadTick j b

/-- A tick of the candidate whose turn it is: its decision and update, then the controller (45_demodulator.md R557 to
R559, R562). -/
def State.candidateTick (s : State) : State :=
  let j := s.rx.cidx
  let d := s.rx.fe.discriminant
  let c := s.rx.cands[j].update d s.rx.fe.totalEnergy
  State.controllerTick { s with rx := { s.rx with cands := s.rx.cands.set j.val c j.isLt, cidx := j + 1 } } j (decideBit d)

/-- The tick accumulator's increment, 600·P (45_demodulator.md R557). -/
def tickIncrement : Nat := Config.baud * Config.candidates

/-- Consume the sample x: front end, tick schedule, and the tick where the step is one (46_rx_controller.md R601, in
the order of 45_demodulator.md R562). -/
def State.rxConsume (s : State) (x : Int) : State :=
  let pacc := s.rx.pacc + tickIncrement
  let rx : RxEngine := { s.rx with samples := s.rx.samples + 1#32, fe := s.rx.fe.advance x }
  if s.fs ≤ pacc then State.candidateTick { s with rx := { rx with pacc := pacc - s.fs } }
  else { s with rx := { rx with pacc := pacc } }

/-- The RX engine's turn: a step where it may take one, otherwise none (46_rx_controller.md R601). -/
def State.rxTurn (s : State) : State :=
  if s.rxEn then
    match s.rx.ain with
    | [] => s
    | x :: rest => State.rxConsume { s with rx := { s.rx with ain := rest } } x.toInt
  else s

/-- Whether the RX engine may take a step (46_rx_controller.md R601). -/
def State.rxReady (s : State) : Bool := s.rxEn && !s.rx.ain.isEmpty

/-- RX_RESET (46_rx_controller.md R613). -/
def execRxReset (s : State) : Host.Outcome State Fault Refusal := .next (if s.rxEn then s.openSession else s)

end Sys2Proof.Machine
end

