-- ==== Sys2Proof/Machine/Dispatch.lean ====
section
/-! DEFINITION. The meaning of every command: one arm per constructor of Instr. -/

namespace Sys2Proof.Machine

def exec (i : Instr) (s : State) : Host.Outcome State Fault Refusal :=
  match i with
  | .nop => Sys2Proof.Machine.execNop s
  | .gfAdd => Sys2Proof.Machine.execGfAdd s
  | .gfMul => Sys2Proof.Machine.execGfMul s
  | .gfDiv => Sys2Proof.Machine.execGfDiv s
  | .gfInv => Sys2Proof.Machine.execGfInv s
  | .gfPow => Sys2Proof.Machine.execGfPow s
  | .gfExp => Sys2Proof.Machine.execGfExp s
  | .gfLog => Sys2Proof.Machine.execGfLog s
  | .polyEval => Sys2Proof.Machine.execPolyEval s
  | .rsEncode => Sys2Proof.Machine.execRsEncode s
  | .rsDecode => Sys2Proof.Machine.execRsDecode s
  | .rsSyndrome => Sys2Proof.Machine.execRsSyndrome s
  | .interleave => Sys2Proof.Machine.execInterleave s
  | .deinterleave => Sys2Proof.Machine.execDeinterleave s
  | .txSend => Sys2Proof.Machine.execTxSend s
  | .txSendRaw => Sys2Proof.Machine.execTxSendRaw s
  | .txAbort => Sys2Proof.Machine.execTxAbort s
  | .rxReset => Sys2Proof.Machine.execRxReset s
  | .softReset => Sys2Proof.Machine.execSoftReset s

end Sys2Proof.Machine
end

