-- ==== Sys2Proof/Machine/Flags.lean ====
section
/-! DEFINITION. The flags: the interrupt output and the computed registers (10_state.md R110, R63, R80 to R82;
47_register_access.md R650), and the register images of ERR, RS_RESULT and RX_RESULT. -/

namespace Sys2Proof.Machine

/-- ERR.CODE as a byte (60_exceptions.md R700). -/
def ErrCode.toByte (c : ErrCode) : Byte :=
  match c with
  | .none => 0x00#8
  | .illegalCmd => 0x01#8
  | .txBusy => 0x02#8
  | .gfDomain => 0x03#8
  | .configBusy => 0x04#8
  | .badValue => 0x05#8
  | .roWrite => 0x06#8
  | .unmapped => 0x07#8
  | .rxDisabled => 0x08#8

/-- REASON as two bits (10_state.md R74). -/
def FailReason.toBits (r : FailReason) : BitVec 2 :=
  match r with
  | .none => 0#2
  | .locatorTooLong => 1#2
  | .rootMismatch => 2#2
  | .verify => 3#2

/-- The interrupt output, a level (60_exceptions.md R711). -/
def State.irqOut (s : State) : Bool := s.irqStatus &&& s.irqEnable != 0#7

/-- STATUS.RX_STATE: 0 IDLE, 1 SEARCH or CONFIRM, 2 PAYLOAD; 3 is never produced (10_state.md R63). -/
def RxState.toBits (r : RxState) : BitVec 2 :=
  match r with
  | .idle => 0#2
  | .search => 1#2
  | .confirm => 1#2
  | .payload => 2#2

/-- The image of ERR (10_state.md R65). -/
def ErrReg.word (r : ErrReg) : Word := 0#23 ++ BitVec.ofBool r.multi ++ r.code.toByte

/-- The image of RS_RESULT (10_state.md R74). -/
def RsResult.word (r : RsResult) : Word := 0#22 ++ r.reason.toBits ++ r.count ++ 0#3 ++ BitVec.ofBool r.ok

/-- The image of RX_RESULT (10_state.md R75). -/
def RxResult.word (r : RxResult) : Word :=
  0#15 ++ BitVec.ofBool r.lost ++ 0#6 ++ r.reason.toBits ++ r.count ++ 0#2 ++ BitVec.ofBool r.ok ++ BitVec.ofBool r.valid

/-- The image of RX_CFG (10_state.md R70). -/
def RxCfg.word (c : RxCfg) : Word := 0#24 ++ c.lockRatio ++ 0#2 ++ c.syncTol

/-- STATUS (10_state.md R63, 47_register_access.md R650). -/
def State.statusWord (s : State) : Word :=
  0#24 ++ BitVec.ofBool s.irqOut ++ BitVec.ofBool s.rxResult.valid ++ BitVec.ofBool (s.rx.ctl.state == .payload)
    ++ BitVec.ofBool (s.rx.ctl.state == .confirm) ++ s.rx.ctl.state.toBits ++ BitVec.ofBool s.rxEn
    ++ BitVec.ofBool s.tx.active

/-- DIAG (10_state.md R80, 47_register_access.md R650). -/
def State.diagWord (s : State) : Word :=
  let c := s.rx.ctl
  0#7 ++ BitVec.ofNat 9 (if c.state = .payload then c.pcount.val else 0)
    ++ 0#1 ++ BitVec.ofNat 3 (if c.state = .confirm then c.confLeft else 0)
    ++ 0#1 ++ BitVec.ofNat 3 (if c.state = .confirm then c.confBest.val else 0)
    ++ 0#1 ++ BitVec.ofNat 3 s.rx.cidx.val
    ++ 0#1 ++ BitVec.ofNat 3 (if c.state = .payload then c.lock.val else 0)

/-- FIFO_LEVEL (10_state.md R81, 47_register_access.md R650). -/
def State.fifoLevelWord (s : State) : Word :=
  0#5 ++ BitVec.ofNat 11 s.tx.aout.length ++ 0#5 ++ BitVec.ofNat 11 s.rx.ain.length

/-- TX_STAT (10_state.md R82, 47_register_access.md R650). -/
def State.txStatWord (s : State) : Word := 0#22 ++ BitVec.ofNat 10 s.tx.k

end Sys2Proof.Machine
end

