-- ==== Sys2Proof/Machine/Port.lean ====
section
/-! DEFINITION. The register port: the address map (20_memory.md) and the effect of every Host read and write
(47_register_access.md). -/

namespace Sys2Proof.Machine

/-- The registers of 10_state.md R60. -/
inductive Reg where
  | id
  | ctrl
  | status
  | cmd
  | err
  | irqStatus
  | irqEnable
  | sampleRate
  | syncWord
  | rxCfg
  | gfA
  | gfB
  | gfR
  | rsResult
  | rxResult
  | rxStats0
  | rxStats1
  | rxOvr
  | rxSamples
  | diag
  | fifoLevel
  | txStat
  | ainData
  | aoutData
deriving DecidableEq, Repr

/-- The registers in the order of their offsets, from 0x000 (10_state.md R60). -/
def regMap : List Reg :=
  [.id, .ctrl, .status, .cmd, .err, .irqStatus, .irqEnable, .sampleRate, .syncWord, .rxCfg, .gfA, .gfB, .gfR,
    .rsResult, .rxResult, .rxStats0, .rxStats1, .rxOvr, .rxSamples, .diag, .fifoLevel, .txStat, .ainData, .aoutData]

/-- What an access reaches (20_memory.md R157): a register, a word of a buffer, or nothing. -/
inductive Target where
  | reg (r : Reg)
  | word (b : Buf) (w : Nat)
  | unmapped
deriving DecidableEq, Repr

/-- The buffers by rising base. -/
def bufMap : List Buf := [.msg, .cw, .syn, .txf, .rxRaw, .rxCw, .rxData]

/-- The number of words a buffer occupies; the last may be partly filled (20_memory.md R153). -/
def Buf.words (b : Buf) : Nat := (b.size + 3) / 4

/-- The word index of an address: bits 1:0 are ignored (20_memory.md R152). -/
def wordIndex (a : Addr) : Nat := (a >>> 2).toNat

/-- The address map (20_memory.md R157): the registers from offset 0, the buffers at their bases, nothing elsewhere. -/
def target (a : Addr) : Target :=
  let w := wordIndex a
  match regMap[w]? with
  | some r => .reg r
  | none =>
    match bufMap.find? (fun b => decide (b.base / 4 ≤ w ∧ w < b.base / 4 + b.words)) with
    | some b => .word b (w - b.base / 4)
    | none => .unmapped

/-- A word of a buffer, byte 4w in bits 7:0 (20_memory.md R153). -/
def State.bufWord (s : State) (b : Buf) (w : Nat) : Word :=
  s.bufByte b (4 * w + 3) ++ s.bufByte b (4 * w + 2) ++ s.bufByte b (4 * w + 1) ++ s.bufByte b (4 * w)

/-- Write a word of a buffer, bits 7:0 to byte 4w (20_memory.md R153). -/
def State.setBufWord (s : State) (b : Buf) (w : Nat) (v : Word) : State :=
  let bytes := [v.extractLsb' 0 8, v.extractLsb' 8 8, v.extractLsb' 16 8, v.extractLsb' 24 8]
  { s with mem := s.mem.writeBytes (b.base + 4 * w) bytes }

/-- The value a Host read of a register returns (47_register_access.md R650; 20_memory.md R156 for CMD and AIN_DATA). -/
def State.regWord (s : State) (r : Reg) : Word :=
  match r with
  | .id => Config.idConstant
  | .ctrl => 0#31 ++ BitVec.ofBool s.rxEn
  | .status => s.statusWord
  | .cmd => 0#32
  | .err => s.err.word
  | .irqStatus => 0#25 ++ s.irqStatus
  | .irqEnable => 0#25 ++ s.irqEnable
  | .sampleRate => s.sampleRate
  | .syncWord => 0#16 ++ Config.syncWord
  | .rxCfg => s.rxCfg.word
  | .gfA => 0#24 ++ s.gfA
  | .gfB => 0#24 ++ s.gfB
  | .gfR => 0#24 ++ s.gfR
  | .rsResult => s.rsResult.word
  | .rxResult => s.rxResult.word
  | .rxStats0 => s.truncCnt ++ s.syncCnt
  | .rxStats1 => s.failCnt ++ s.delivCnt
  | .rxOvr => 0#16 ++ s.overrunCnt
  | .rxSamples => s.rx.samples
  | .diag => s.diagWord
  | .fifoLevel => s.fifoLevelWord
  | .txStat => s.txStatWord
  | .ainData => 0#32
  | .aoutData => s.popAout.1

/-- The state a Host read of a register leaves: only AOUT_DATA has a side effect (20_memory.md R159). -/
def State.afterRegRead (s : State) (r : Reg) : State :=
  match r with
  | .aoutData => s.popAout.2
  | .id | .ctrl | .status | .cmd | .err | .irqStatus | .irqEnable | .sampleRate | .syncWord | .rxCfg | .gfA | .gfB
  | .gfR | .rsResult | .rxResult | .rxStats0 | .rxStats1 | .rxOvr | .rxSamples | .diag | .fifoLevel | .txStat
  | .ainData => s

/-- The word a Host read returns and the state after it (47_register_access.md R650; 20_memory.md R156). -/
def State.hostRead (s : State) (a : Addr) : Word × State :=
  match target a with
  | .reg r => (s.regWord r, s.afterRegRead r)
  | .word b w => (s.bufWord b w, s)
  | .unmapped => (0#32, s.raiseError .unmapped)

/-- CTRL write: open or close the receive session on a change of RX_EN (47_register_access.md R653). -/
def State.writeCtrl (s : State) (v : Word) : State :=
  match s.rxEn, v.getLsbD 0 with
  | false, true => State.openSession { s with rxEn := true }
  | true, false => State.closeSession { s with rxEn := false }
  | false, false => s
  | true, true => s

/-- SAMPLE_RATE write; the busy test is made first (47_register_access.md R655). -/
def State.writeSampleRate (s : State) (v : Word) : State :=
  if s.tx.active = true ∨ s.rxEn = true then s.raiseError .configBusy
  else if v.toNat < Config.minRate ∨ Config.maxRate < v.toNat then s.raiseError .badValue
  else { s with sampleRate := v }

/-- RX_CFG write (47_register_access.md R656). -/
def State.writeRxCfg (s : State) (v : Word) : State :=
  if s.rxEn = true then s.raiseError .configBusy
  else if Config.maxLockRatio < (v.extractLsb' 4 4).toNat then s.raiseError .badValue
  else { s with rxCfg := { syncTol := v.extractLsb' 0 2, lockRatio := v.extractLsb' 4 4 } }

/-- RX_RESULT write: VALID and LOST are cleared by writing 1 (47_register_access.md R659). -/
def State.writeRxResult (s : State) (v : Word) : State :=
  { s with rxResult := { s.rxResult with
      valid := s.rxResult.valid && !v.getLsbD 0, lost := s.rxResult.lost && !v.getLsbD 16 } }

/-- CMD write: a legal word's command runs whole, inside this step; an illegal word does
`raise Error(ILLEGAL_CMD)` and nothing else (47_register_access.md R651, R652). -/
def State.writeCmd (s : State) (v : Word) : Host.Outcome State Fault Refusal :=
  match decode v with
  | .ok i => exec i s
  | .error _ => .next (s.raiseError .illegalCmd)

/-- The effect of a Host write to a register (47_register_access.md R651 to R664; 20_memory.md R156 for the read-only
ones). -/
def State.writeReg (s : State) (r : Reg) (v : Word) : Host.Outcome State Fault Refusal :=
  match r with
  | .cmd => s.writeCmd v
  | .ctrl => .next (s.writeCtrl v)
  | .err => .next { s with err := { code := .none, multi := false } }
  | .irqStatus => .next { s with irqStatus := s.irqStatus &&& ~~~(v.extractLsb' 0 7) }
  | .irqEnable => .next { s with irqEnable := v.extractLsb' 0 7 }
  | .sampleRate => .next (s.writeSampleRate v)
  | .rxCfg => .next (s.writeRxCfg v)
  | .gfA => .next { s with gfA := v.extractLsb' 0 8 }
  | .gfB => .next { s with gfB := v.extractLsb' 0 8 }
  | .rxResult => .next (s.writeRxResult v)
  | .rxStats0 => .next { s with syncCnt := 0#16, truncCnt := 0#16 }
  | .rxStats1 => .next { s with delivCnt := 0#16, failCnt := 0#16 }
  | .rxOvr => .next { s with overrunCnt := 0#16 }
  | .ainData => .next (s.pushAin v)
  | .id | .status | .syncWord | .gfR | .rsResult | .rxSamples | .diag | .fifoLevel | .txStat | .aoutData =>
    .next (s.raiseError .roWrite)

/-- The effect of a Host write (47_register_access.md R651 to R664; 20_memory.md R153, R156). -/
def State.hostWrite (s : State) (a : Addr) (v : Word) : Host.Outcome State Fault Refusal :=
  match target a with
  | .reg r => s.writeReg r v
  | .word b w => if b.writable then .next (s.setBufWord b w v) else .next (s.raiseError .roWrite)
  | .unmapped => .next (s.raiseError .unmapped)

/-- The offset in the block's window of a platform address, where it falls in the window at BASE_ADDR
(20_memory.md R158). -/
def windowOffset (p : Nat) : Option Addr :=
  if Config.baseAddr ≤ p ∧ p < Config.baseAddr + 4096 then some (BitVec.ofNat 12 (p - Config.baseAddr)) else none

end Sys2Proof.Machine
end

