-- ==== Sys2Proof/Machine/Agents.lean ====
section
/-! DEFINITION. Who moves next, and what one turn does (20_memory.md R160, R170; 70_reset_and_hazards.md R750, R770). -/

namespace Sys2Proof.Machine

/-- The engine that moves where nothing is scheduled: TX where it may take a step, else RX where it may, else none, so
that no engine that may step waits forever (70_reset_and_hazards.md R771). DESIGN CHOICE, log entry 3. -/
def State.engineTurn (s : State) : Option Action :=
  if s.txReady then some .txTurn else if s.rxReady then some .rxTurn else none

/-- The turn that comes next. -/
def State.nextAction (s : State) : Option Action :=
  match s.schedule with
  | a :: _ => some a
  | [] => s.engineTurn

/-- The state with the next scheduled turn taken off. -/
def State.dequeue (s : State) : State := { s with schedule := s.schedule.tail }

/-- The state after a Host read, the word it returned put before the earlier ones. -/
def State.recordRead (s : State) (a : Addr) : State :=
  { (s.hostRead a).2 with reads := (s.hostRead a).1 :: s.reads }

/-- One turn, atomic (20_memory.md R160): a Host access, an engine's turn, or a hardware reset
(70_reset_and_hazards.md R750). -/
def State.perform (s : State) (a : Action) : Host.Outcome State Fault Refusal :=
  match a with
  | .write addr v => s.hostWrite addr v
  | .read addr => .next (s.recordRead addr)
  | .txTurn => .next s.txTurn
  | .rxTurn => .next s.rxTurn
  | .hardReset => .next s.resetBlock

/-- The address of CMD (10_state.md R60). -/
def cmdAddr : Addr := 0x00C#12

end Sys2Proof.Machine
end

