-- ==== Sys2Proof/Machine/Step.lean ====
section
/-! DEFINITION. One step of the machine: one atomic turn of the interleaving (20_memory.md R170). -/

namespace Sys2Proof.Machine

/-- One step: the next turn is taken off the schedule and performed; with nothing scheduled and no engine able to step,
the block does nothing (70_reset_and_hazards.md R751). -/
def step (s : State) : Host.Outcome State Fault Refusal :=
  match s.nextAction with
  | some a => s.dequeue.perform a
  | none => .next s

/-- The Host's very next access is the write of this command word to CMD: the block fetches no instruction, a command
is the value of one CMD write (10_state.md R51, 20_memory.md R174). Log entry 8. -/
def State.withFetchWord (s : State) (nbits w : Nat) : State :=
  { s with schedule := .write cmdAddr (BitVec.ofNat 32 (w % 2 ^ nbits)) :: s.schedule }

end Sys2Proof.Machine
end

