-- ==== Sys2Proof/Machine/Reference.lean ====
section
/-! DEFINITION. The mathematical objects the rules speak of, written directly from the rules' words and not through the
block's tables; the statements compare the machine with them. -/

namespace Sys2Proof.Machine

/-- The product of the polynomials of two bytes over GF(2), not reduced (40_gf_arith.md R300, R303). -/
def polyProduct (a b : Byte) : BitVec 15 :=
  (List.range 8).foldl (fun acc i => if b.getLsbD i then acc ^^^ (a.setWidth 15 <<< i) else acc) 0#15

/-- The remainder of a polynomial of degree at most 14 modulo 0x11D (40_gf_arith.md R300). -/
def polyReduce (p : BitVec 15) : Byte :=
  ((List.range 7).foldl (fun acc i => if acc.getLsbD (14 - i) then acc ^^^ (0x11D#15 <<< (6 - i)) else acc) p).setWidth 8

/-- The product in GF(2)[x] modulo 0x11D (40_gf_arith.md R300, R303). -/
def gfProduct (a b : Byte) : Byte := polyReduce (polyProduct a b)

/-- a multiplied by itself e times; the empty product is 0x01 (40_gf_arith.md R306). -/
def gfRepeated (a : Byte) (e : Nat) : Byte :=
  match e with
  | 0 => 0x01#8
  | n + 1 => gfProduct (gfRepeated a n) a

/-- The primitive element alpha (40_gf_arith.md R300). -/
def alpha : Byte := 0x02#8

/-- The value at x of the polynomial whose coefficients are c, highest power first: the sum of `c[p]·x^(n-1-p)`
(41_rs_codec.md R351, 40_gf_arith.md R317). -/
def polyValue (c : List Byte) (x : Byte) : Byte :=
  gfSum ((List.range c.length).map (fun p => gfProduct (c.getD p 0#8) (gfRepeated x (c.length - 1 - p))))

/-- A polynomial, highest power first, times `x (+) r`. -/
def timesRoot (p : List Byte) (r : Byte) : List Byte := List.zipWith gfAdd (p ++ [0#8]) (0#8 :: p.map (gfProduct r))

/-- The product of `x (+) alpha^i` for i in 0..15 (41_rs_codec.md R352). -/
def generatorProduct : List Byte := (List.range 16).foldl (fun p i => timesRoot p (gfRepeated alpha i)) [0x01#8]

/-- The number of positions in which two words of 64 bytes differ. -/
def byteDistance (a b : List Byte) : Nat := (List.range 64).countP (fun p => a.getD p 0#8 != b.getD p 0#8)

/-- A byte as the sum of its bits' weights, the first bit weighing 128 (46_rx_controller.md R608). -/
def weighedByte (bits : List Bool) : Byte :=
  BitVec.ofNat 8 ((List.range 8).map (fun b => if bits.getD b false then 2 ^ (7 - b) else 0)).sum

/-- Every byte outside the named buffers reads the same in both states. -/
def State.sameOutside (s t : State) (bs : List Buf) : Prop :=
  ∀ a : Nat, (∀ b ∈ bs, a < b.base ∨ b.base + b.size ≤ a) → t.mem.read a = s.mem.read a

end Sys2Proof.Machine
end

