-- ==== Sys2Proof/Safety.lean ====
section
/-! DEFINITION. What counts as a safe run, in the terms the statements use: the invariants of the rules
(10_state.md R100 to R104, 46_rx_controller.md R615, 44_modulator.md R513) and the reference a transmission follows. -/

namespace Sys2Proof.Machine

/-- An address that holds a byte of one of the seven buffers (20_memory.md R157). -/
def bufferAddress (a : Nat) : Bool := bufMap.any (fun b => decide (b.base ≤ a) && decide (a < b.base + b.size))

/-- The memory keeps its canonical form and lists only bytes of buffers. -/
abbrev State.MemoryOk (s : State) : Prop := s.mem.wf = true ∧ ∀ c ∈ s.mem, bufferAddress c.1 = true

/-- SAMPLE_RATE and RX_CFG.LOCK_RATIO hold legal values (10_state.md R68, R70). -/
abbrev State.ConfigOk (s : State) : Prop :=
  Config.minRate ≤ s.fs ∧ s.fs ≤ Config.maxRate ∧ s.rxCfg.lockRatio.toNat ≤ Config.maxLockRatio

/-- ERR.MULTI is set only beside a recorded code (10_state.md R65). -/
abbrev State.ErrorOk (s : State) : Prop := s.err.multi = true → s.err.code ≠ .none

/-- The TX engine's ranges (10_state.md R100), AOUT empty while no transmission is active (44_modulator.md R513), and the
increments those of SAMPLE_RATE while one is (R520). The bound of tx.sacc holds while a transmission is active (log
entry 5). A transmission whose last bit has become samples still holds one (R511). -/
abbrev State.TransmitOk (s : State) : Prop :=
  s.tx.k ≤ Config.frameBits ∧ s.tx.aout.length ≤ Config.fifoDepth ∧ (s.tx.active = false → s.tx.aout = []) ∧
  (s.tx.active = true → s.tx.sacc < s.fs ∧ s.tx.inc1 = ncoIncrement Config.markHz s.fs ∧
    s.tx.inc0 = ncoIncrement Config.spaceHz s.fs ∧ (s.tx.k = Config.frameBits → s.tx.aout ≠ []))

/-- The receive state space (46_rx_controller.md R615) and the fill counts' range (10_state.md R103). -/
abbrev State.ReceiveOk (s : State) : Prop :=
  (s.rxEn = false ↔ s.rx.ctl.state = .idle) ∧ (s.rxEn = false → s.rx.ain = []) ∧
  s.rx.ain.length ≤ Config.fifoDepth ∧
  (s.rx.ctl.state = .confirm → 1 ≤ s.rx.ctl.confLeft ∧ s.rx.ctl.confLeft ≤ 7) ∧
  (s.rx.ctl.state ≠ .payload → s.rx.ctl.pcount = 0) ∧ ∀ j : Fin 8, s.rx.cands[j].fill ≤ 16

/-- The component-wise sum of a list of tuples. -/
def Quad.total (l : List Quad) : Quad := l.foldr Quad.add Quad.zero

/-- Every component lies in the range of 45_demodulator.md R552. -/
abbrev Quad.Bounded (q : Quad) : Prop :=
  q.mi.natAbs ≤ 32768 ∧ q.mq.natAbs ≤ 32768 ∧ q.si.natAbs ≤ 32768 ∧ q.sq.natAbs ≤ 32768

/-- While a session is open: the session constants (45_demodulator.md R550), the delay line's length and position, the
products' range (R552), each window sum the exact sum over the delay line (R553), and the tick accumulator's range
(10_state.md R103, log entry 5). -/
abbrev State.SessionOk (s : State) : Prop :=
  s.rxEn = true →
    s.rx.fe.n = s.fs / Config.baud ∧ s.rx.fe.incM = ncoIncrement Config.markHz s.fs ∧
    s.rx.fe.incS = ncoIncrement Config.spaceHz s.fs ∧ s.rx.fe.dl.length = s.rx.fe.n ∧ s.rx.fe.dpos < s.rx.fe.n ∧
    s.rx.fe.acc = Quad.total s.rx.fe.dl ∧ (∀ q ∈ s.rx.fe.dl, q.Bounded) ∧ s.rx.pacc < s.fs

/-- RS_RESULT and RX_RESULT: COUNT is 0..8, 0 on a failure, and REASON is NONE on a success (10_state.md R74, R75). -/
abbrev State.ResultsOk (s : State) : Prop :=
  (s.rsResult.count.toNat ≤ Config.correctable ∧ (s.rsResult.ok = false → s.rsResult.count = 0#4) ∧
    (s.rsResult.ok = true → s.rsResult.reason = .none)) ∧
  (s.rxResult.count.toNat ≤ Config.correctable ∧ (s.rxResult.ok = false → s.rxResult.count = 0#4) ∧
    (s.rxResult.ok = true → s.rxResult.reason = .none))

/-- Every invariant of the rules together. -/
abbrev State.Inv (s : State) : Prop :=
  s.MemoryOk ∧ s.ConfigOk ∧ s.ErrorOk ∧ s.TransmitOk ∧ s.ReceiveOk ∧ s.SessionOk ∧ s.ResultsOk

/-- The variables of the modulation loop after n samples of the bits f (44_modulator.md R504). -/
def modStateAt (f : List Bool) (fs : Nat) (n : Nat) : ModState :=
  match n with
  | 0 => { k := 0, phi := 0#32, sacc := 0 }
  | m + 1 =>
    let st := modStateAt f fs m
    modAdvance (ncoIncrement Config.markHz fs) (ncoIncrement Config.spaceHz fs) fs (f.getD st.k false) st

/-- The bits of the frame in TXF (30_encoding.md R211). -/
def State.frameInTxf (s : State) : List Bool := frameBitList (s.bufBytes .txf)

/-- While a transmission is active, the engine stands where the modulation loop of TXF's bits stands after some number
m of samples, and AOUT holds the last of those m samples of `modulate`, the earlier ones having been popped
(44_modulator.md R510). -/
def State.FollowsModulate (s : State) : Prop :=
  s.tx.active = true → ∃ m : Nat,
    modStateAt s.frameInTxf s.fs m = { k := s.tx.k, phi := s.tx.phi, sacc := s.tx.sacc } ∧ s.tx.aout.length ≤ m ∧
    s.tx.aout = ((modulate s.frameInTxf s.fs).take m).drop (m - s.tx.aout.length)

end Sys2Proof.Machine
end

