-- ==== Sys2Proof/Certificates/Slice0/Obligations.lean ====
section
/-! DEFINITION. The statements for the provers. Where a statement speaks of a step, the turn that comes next stands at
the head of `schedule` (log entry 1) and a word read is put at the head of `reads` (log entry 2): both fields are the
model's own. -/

open Sys2Proof Sys2Proof.Machine

/-! ### Encoding and the step -/

/-- The nineteen command words of 30_encoding.md R203, each written out. -/
def Obligations.DecodeReadsTheOpcodeMap : Prop :=
  decode 0x00000000#32 = .ok .nop ∧ decode 0x00000001#32 = .ok .gfAdd ∧ decode 0x00000002#32 = .ok .gfMul ∧
  decode 0x00000003#32 = .ok .gfDiv ∧ decode 0x00000004#32 = .ok .gfInv ∧ decode 0x00000005#32 = .ok .gfPow ∧
  decode 0x00000006#32 = .ok .gfExp ∧ decode 0x00000007#32 = .ok .gfLog ∧ decode 0x00000008#32 = .ok .polyEval ∧
  decode 0x00000010#32 = .ok .rsEncode ∧ decode 0x00000011#32 = .ok .rsDecode ∧
  decode 0x00000012#32 = .ok .rsSyndrome ∧ decode 0x00000018#32 = .ok .interleave ∧
  decode 0x00000019#32 = .ok .deinterleave ∧ decode 0x00000020#32 = .ok .txSend ∧
  decode 0x00000021#32 = .ok .txSendRaw ∧ decode 0x00000022#32 = .ok .txAbort ∧
  decode 0x00000030#32 = .ok .rxReset ∧ decode 0x000000FF#32 = .ok .softReset

/-- Decode and encode agree in both directions, over every 32-bit word: a word is decoded to a command if and only if it
is that command's encoding, and it is decoded at all if and only if its bits 31:8 are 0 and its bits 7:0 are one of the
nineteen opcodes (30_encoding.md R201, R204). -/
def Obligations.LegalWordsAreExactlyTheEncodings : Prop :=
  ∀ w : Word,
    (∀ i : Instr, decode w = .ok i ↔ w = encode i) ∧
    ((∃ i : Instr, decode w = .ok i) ↔
      w.extractLsb' 8 24 = 0#24 ∧
        (w.extractLsb' 0 8).toNat ∈ [0x00, 0x01, 0x02, 0x03, 0x04, 0x05, 0x06, 0x07, 0x08, 0x10, 0x11, 0x12, 0x18, 0x19,
          0x20, 0x21, 0x22, 0x30, 0xFF])

/-- A step runs the decoded command: where the Host's next access writes a command's word to CMD (bits 1:0 of the
address are ignored), the step is exec of that command on the state with the access taken off the schedule. -/
def Obligations.StepRunsTheDecodedCommand : Prop :=
  ∀ (s : State) (a : Addr) (w : Word) (rest : List Action) (i : Instr),
    s.schedule = .write a w :: rest → a &&& 0xFFC#12 = 0x00C#12 → decode w = .ok i →
      step s = exec i { s with schedule := rest }

/-- An illegal word written to CMD records ILLEGAL_CMD and sets IRQ_STATUS.ERR, and changes nothing else
(30_encoding.md R204, 47_register_access.md R652). -/
def Obligations.IllegalWordOnlyRecordsAnError : Prop :=
  ∀ (s : State) (a : Addr) (w : Word) (rest : List Action),
    s.schedule = .write a w :: rest → a &&& 0xFFC#12 = 0x00C#12 →
    (w.extractLsb' 8 24 ≠ 0#24 ∨
      (w.extractLsb' 0 8).toNat ∉ [0x00, 0x01, 0x02, 0x03, 0x04, 0x05, 0x06, 0x07, 0x08, 0x10, 0x11, 0x12, 0x18, 0x19,
        0x20, 0x21, 0x22, 0x30, 0xFF]) →
      step s = .next { s with
        schedule := rest,
        err := if s.err.code = .none then { code := .illegalCmd, multi := s.err.multi }
               else { code := s.err.code, multi := true },
        irqStatus := s.irqStatus ||| 0x20#7 }

/-- Nothing stops the machine: every step answers a next state (60_exceptions.md R702). -/
def Obligations.EveryStepAnswersANextState : Prop := ∀ s : State, ∃ t : State, step s = .next t

/-! ### GF(2^8) -/

/-- The printed EXP and LOG tables follow the recurrence that defines them (40_gf_arith.md R302). -/
def Obligations.TablesFollowTheirRecurrence : Prop :=
  gfExp 0 = 0x01#8 ∧
  (∀ i : Nat, i ≤ 253 → gfExp (i + 1) = if (gfExp i).getLsbD 7 then (gfExp i <<< 1) ^^^ 0x1D#8 else gfExp i <<< 1) ∧
  (∀ i : Nat, i ≤ 254 → gfLog (gfExp i) = i) ∧ ∀ e : Nat, gfExp e = gfExp (e % 255)

/-- The multiplication laws of 40_gf_arith.md R307. -/
def Obligations.FieldLawsHold : Prop :=
  (∀ a b : Byte, gfAdd a b = gfAdd b a ∧ gfMul a b = gfMul b a) ∧
  (∀ a b c : Byte, gfAdd (gfAdd a b) c = gfAdd a (gfAdd b c) ∧ gfMul (gfMul a b) c = gfMul a (gfMul b c) ∧
    gfMul a (gfAdd b c) = gfAdd (gfMul a b) (gfMul a c)) ∧
  (∀ a : Byte, gfMul a 0x01#8 = a ∧ gfMul a 0x00#8 = 0x00#8) ∧
  (∀ a : Byte, a ≠ 0#8 → gfPower a 255 = 0x01#8 ∧ ∀ e : Nat, 1 ≤ e → gfPower a (e + 255) = gfPower a e) ∧
  ∀ a b : Byte, gfPower (gfAdd a b) 2 = gfAdd (gfPower a 2) (gfPower b 2)

/-- GF_ADD (40_gf_arith.md R310). -/
def Obligations.GfAddWritesTheSum : Prop :=
  encode .gfAdd = 0x00000001#32 ∧
  ∀ s : State, exec .gfAdd s = .next { s with gfR := s.gfA ^^^ s.gfB } ∧
    (s.gfA = s.gfB → s.gfA ^^^ s.gfB = 0#8) ∧ (s.gfB = 0#8 → s.gfA ^^^ s.gfB = s.gfA)

/-- GF_MUL writes the product of the two polynomials reduced modulo 0x11D, and nothing else (40_gf_arith.md R311,
R303). -/
def Obligations.GfMulWritesTheReducedProduct : Prop :=
  encode .gfMul = 0x00000002#32 ∧
  ∀ s : State, exec .gfMul s = .next { s with gfR := gfProduct s.gfA s.gfB } ∧
    (s.gfA = 0#8 ∨ s.gfB = 0#8 → gfProduct s.gfA s.gfB = 0#8) ∧
    (s.gfA = 1#8 → gfProduct s.gfA s.gfB = s.gfB) ∧ (s.gfB = 1#8 → gfProduct s.gfA s.gfB = s.gfA)

/-- GF_DIV: with a divisor of 0 GF_R becomes 0 and GF_DOMAIN is recorded; otherwise GF_R becomes the one quotient
(40_gf_arith.md R312). -/
def Obligations.GfDivWritesTheQuotient : Prop :=
  encode .gfDiv = 0x00000003#32 ∧
  ∀ s : State,
    (s.gfB = 0#8 → exec .gfDiv s = .next (State.raiseError { s with gfR := 0#8 } .gfDomain)) ∧
    (s.gfB ≠ 0#8 → ∃ q : Byte, exec .gfDiv s = .next { s with gfR := q } ∧ gfProduct q s.gfB = s.gfA ∧
      (∀ q' : Byte, gfProduct q' s.gfB = s.gfA → q' = q) ∧ (s.gfA = 0#8 → q = 0#8) ∧ (s.gfA = s.gfB → q = 1#8))

/-- GF_INV: of 0 GF_R becomes 0 and GF_DOMAIN is recorded; otherwise GF_R becomes the one inverse
(40_gf_arith.md R313). -/
def Obligations.GfInvWritesTheInverse : Prop :=
  encode .gfInv = 0x00000004#32 ∧
  ∀ s : State,
    (s.gfA = 0#8 → exec .gfInv s = .next (State.raiseError { s with gfR := 0#8 } .gfDomain)) ∧
    (s.gfA ≠ 0#8 → ∃ b : Byte, exec .gfInv s = .next { s with gfR := b } ∧ gfProduct s.gfA b = 1#8 ∧
      ∀ b' : Byte, gfProduct s.gfA b' = 1#8 → b' = b)

/-- GF_POW writes A multiplied by itself E times, the empty product being 0x01 (40_gf_arith.md R314, R306). -/
def Obligations.GfPowWritesThePower : Prop :=
  encode .gfPow = 0x00000005#32 ∧
  ∀ s : State, exec .gfPow s = .next { s with gfR := gfRepeated s.gfA s.gfB.toNat } ∧
    (s.gfB = 0#8 → gfRepeated s.gfA s.gfB.toNat = 1#8) ∧
    (s.gfA = 0#8 → s.gfB ≠ 0#8 → gfRepeated s.gfA s.gfB.toNat = 0#8) ∧
    (s.gfA ≠ 0#8 → s.gfB = 255#8 → gfRepeated s.gfA s.gfB.toNat = 1#8)

/-- GF_EXP writes the power of alpha, never 0 (40_gf_arith.md R315). -/
def Obligations.GfExpWritesThePowerOfAlpha : Prop :=
  encode .gfExp = 0x00000006#32 ∧
  ∀ s : State, exec .gfExp s = .next { s with gfR := gfRepeated alpha (s.gfA.toNat % 255) } ∧
    gfRepeated alpha (s.gfA.toNat % 255) ≠ 0#8 ∧
    (s.gfA = 0#8 ∨ s.gfA = 255#8 → gfRepeated alpha (s.gfA.toNat % 255) = 1#8)

/-- GF_LOG: of 0 GF_R becomes 0 and GF_DOMAIN is recorded; otherwise GF_R becomes the one exponent in 0..254 whose power
of alpha is A (40_gf_arith.md R316). -/
def Obligations.GfLogWritesTheLogarithm : Prop :=
  encode .gfLog = 0x00000007#32 ∧
  ∀ s : State,
    (s.gfA = 0#8 → exec .gfLog s = .next (State.raiseError { s with gfR := 0#8 } .gfDomain)) ∧
    (s.gfA ≠ 0#8 → ∃ r : Byte, exec .gfLog s = .next { s with gfR := r } ∧ r.toNat ≤ 254 ∧
      gfRepeated alpha r.toNat = s.gfA ∧ (∀ e : Nat, e ≤ 254 → gfRepeated alpha e = s.gfA → e = r.toNat) ∧
      (s.gfA = 1#8 → r = 0#8))

/-- POLY_EVAL writes the value of CW's polynomial at GF_A, the sum of CW[p]·X^(63-p); at 0 that is CW[63], at 1 the XOR
of all bytes, and 0 at the 16 roots for a codeword (40_gf_arith.md R317). -/
def Obligations.PolyEvalWritesTheValue : Prop :=
  encode .polyEval = 0x00000008#32 ∧
  ∀ s : State, exec .polyEval s = .next { s with gfR := polyValue (s.bufBytes .cw) s.gfA } ∧
    (s.gfA = 0#8 → polyValue (s.bufBytes .cw) s.gfA = s.bufByte .cw 63) ∧
    (s.gfA = 1#8 → polyValue (s.bufBytes .cw) s.gfA = gfSum (s.bufBytes .cw)) ∧
    ∀ (m : List Byte) (j : Nat), m.length = 48 → j ≤ 15 → s.bufBytes .cw = rsEncode m → s.gfA = gfRepeated alpha j →
      polyValue (s.bufBytes .cw) s.gfA = 0#8

/-! ### Reed-Solomon -/

/-- The printed generator polynomial is the product of (x + alpha^i) for i in 0..15, and no coefficient is 0
(41_rs_codec.md R352). -/
def Obligations.GeneratorIsTheProductOfItsRoots : Prop :=
  rsGenerator = generatorProduct ∧
  generatorProduct = [0x01#8, 0x3B#8, 0x0D#8, 0x68#8, 0xBD#8, 0x44#8, 0xD1#8, 0x1E#8, 0x08#8, 0xA3#8, 0x41#8, 0x29#8,
    0xE5#8, 0x62#8, 0x32#8, 0x24#8, 0x3B#8] ∧
  ∀ g ∈ rsGenerator, g ≠ 0#8

/-- An encoded message is systematic and vanishes at alpha^0..alpha^15, and encoding is linear (41_rs_codec.md R353 and
the forward half of R354). -/
def Obligations.EncodedMessageIsASystematicCodeword : Prop :=
  (∀ m : List Byte, m.length = 48 →
    (rsEncode m).length = 64 ∧ (rsEncode m).take 48 = m ∧
    ∀ j : Nat, j ≤ 15 → polyValue (rsEncode m) (gfRepeated alpha j) = 0#8) ∧
  (∀ a b : List Byte, a.length = 48 → b.length = 48 →
    rsEncode (List.zipWith gfAdd a b) = List.zipWith gfAdd (rsEncode a) (rsEncode b)) ∧
  ∀ (v : Byte) (m : List Byte), m.length = 48 → rsEncode (m.map (gfMul v)) = (rsEncode m).map (gfMul v)

/-- RS_ENCODE: CW becomes MSG followed by its parity, a codeword; no other byte and no register changes
(41_rs_codec.md R370). -/
def Obligations.RsEncodeWritesTheCodeword : Prop :=
  encode .rsEncode = 0x00000010#32 ∧
  ∀ s : State, s.mem.wf = true → ∃ t : State, exec .rsEncode s = .next t ∧ t = { s with mem := t.mem } ∧
    t.mem.wf = true ∧ s.sameOutside t [.cw] ∧ t.bufBytes .cw = rsEncode (s.bufBytes .msg) ∧
    (∀ p : Nat, p < 48 → t.bufByte .cw p = s.bufByte .msg p) ∧
    (∀ j : Nat, j ≤ 15 → polyValue (t.bufBytes .cw) (gfRepeated alpha j) = 0#8) ∧
    ((∀ p : Nat, p < 48 → s.bufByte .msg p = 0#8) → ∀ p : Nat, p < 64 → t.bufByte .cw p = 0#8) ∧
    ((∀ p : Nat, p < 48 → s.bufByte .msg p = if p = 47 then 1#8 else 0#8) →
      ∀ i : Nat, i < 16 → t.bufByte .cw (48 + i) = rsGenerator.getD (i + 1) 0#8)

/-- RS_SYNDROME: SYN[j] becomes the value of CW's polynomial at alpha^j; no other byte and no register changes; one error
of value v at position p gives v·alpha^(j·(63-p)), so a codeword gives zeros (41_rs_codec.md R371). -/
def Obligations.RsSyndromeWritesTheSyndromes : Prop :=
  encode .rsSyndrome = 0x00000012#32 ∧
  ∀ s : State, s.mem.wf = true → ∃ t : State, exec .rsSyndrome s = .next t ∧ t = { s with mem := t.mem } ∧
    t.mem.wf = true ∧ s.sameOutside t [.syn] ∧
    (∀ j : Nat, j < 16 → t.bufByte .syn j = polyValue (s.bufBytes .cw) (gfRepeated alpha j)) ∧
    ∀ (m : List Byte) (p : Nat) (v : Byte), m.length = 48 → p < 64 →
      s.bufBytes .cw = (rsEncode m).set p (gfAdd ((rsEncode m).getD p 0#8) v) →
      ∀ j : Nat, j < 16 → t.bufByte .syn j = gfProduct v (gfRepeated alpha (j * (63 - p)))

/-- RS_DECODE: SYN receives the syndromes of CW as it was; on success CW, MSG and RS_RESULT receive the decoder's word,
data and count; on failure MSG becomes zeros, CW stays and RS_RESULT gives the reason; nothing else changes
(41_rs_codec.md R372). -/
def Obligations.RsDecodeReportsTheOutcome : Prop :=
  encode .rsDecode = 0x00000011#32 ∧
  ∀ s : State, s.mem.wf = true → ∃ t : State, exec .rsDecode s = .next t ∧
    t = { s with mem := t.mem, rsResult := t.rsResult } ∧ t.mem.wf = true ∧ s.sameOutside t [.cw, .msg, .syn] ∧
    (∀ j : Nat, j < 16 → t.bufByte .syn j = polyValue (s.bufBytes .cw) (gfRepeated alpha j)) ∧
    (∀ (data cw : List Byte) (count : Nat), rsDecode (s.bufBytes .cw) = .success data cw count →
      t.bufBytes .cw = cw ∧ t.bufBytes .msg = data ∧
      t.rsResult = { ok := true, count := BitVec.ofNat 4 count, reason := .none }) ∧
    ∀ reason : FailReason, rsDecode (s.bufBytes .cw) = .uncorrectable reason →
      t.bufBytes .cw = s.bufBytes .cw ∧ t.bufBytes .msg = List.replicate 48 0#8 ∧
      t.rsResult = { ok := false, count := 0#4, reason := reason }

/-- Whatever word is received, a successful decode returns a word that vanishes at all 16 roots, its first 48 bytes as
the data, and as the count the number of bytes changed, at most 8; a failure has a reason other than NONE
(41_rs_codec.md R365, and the length check R362). -/
def Obligations.DecodeSuccessReturnsACodewordAndItsDistance : Prop :=
  ∀ r : List Byte, r.length = 64 →
    (∀ (data cw : List Byte) (count : Nat), rsDecode r = .success data cw count →
      cw.length = 64 ∧ data = cw.take 48 ∧ count ≤ 8 ∧ count = byteDistance cw r ∧
      ∀ j : Nat, j ≤ 15 → polyValue cw (gfRepeated alpha j) = 0#8) ∧
    ∀ reason : FailReason, rsDecode r = .uncorrectable reason → reason ≠ .none

/-- RS_ENCODE followed by RS_DECODE leaves CW and MSG as they were and reports a clean word (41_rs_codec.md R375). -/
def Obligations.EncodeThenDecodeIsClean : Prop :=
  ∀ s : State, s.mem.wf = true → ∃ t u : State, exec .rsEncode s = .next t ∧ exec .rsDecode t = .next u ∧
    u.bufBytes .cw = t.bufBytes .cw ∧ u.bufBytes .msg = s.bufBytes .msg ∧
    u.rsResult = { ok := true, count := 0#4, reason := .none } ∧ ∀ j : Nat, j < 16 → u.bufByte .syn j = 0#8

/-- One corrupted byte, anywhere in the codeword and of any value, is corrected and counted (41_rs_codec.md R366 for a
distance of 1). -/
def Obligations.OneCorruptedByteIsCorrected : Prop :=
  ∀ (m : List Byte) (p : Nat) (v : Byte), m.length = 48 → p < 64 → v ≠ 0#8 →
    rsDecode ((rsEncode m).set p (gfAdd ((rsEncode m).getD p 0#8) v)) = .success m (rsEncode m) 1

/-! ### Interleaver -/

/-- INTERLEAVE transposes CW; twice restores it; a symmetric CW is unchanged; no other byte and no register changes
(42_interleave.md R410). -/
def Obligations.InterleaveTransposesCw : Prop :=
  encode .interleave = 0x00000018#32 ∧
  ∀ s : State, s.mem.wf = true → ∃ t u : State, exec .interleave s = .next t ∧ t = { s with mem := t.mem } ∧
    t.mem.wf = true ∧ s.sameOutside t [.cw] ∧
    (∀ r col : Nat, r < 8 → col < 8 → t.bufByte .cw (8 * col + r) = s.bufByte .cw (8 * r + col)) ∧
    exec .interleave t = .next u ∧ u.bufBytes .cw = s.bufBytes .cw ∧
    ((∀ r col : Nat, r < 8 → col < 8 → s.bufByte .cw (8 * r + col) = s.bufByte .cw (8 * col + r)) →
      t.bufBytes .cw = s.bufBytes .cw)

/-- DEINTERLEAVE transposes CW back, undoes INTERLEAVE, and has the same effect as INTERLEAVE (42_interleave.md R411). -/
def Obligations.DeinterleaveTransposesCwBack : Prop :=
  encode .deinterleave = 0x00000019#32 ∧
  ∀ s : State, s.mem.wf = true → ∃ t : State, exec .deinterleave s = .next t ∧ t = { s with mem := t.mem } ∧
    t.mem.wf = true ∧ s.sameOutside t [.cw] ∧
    (∀ r col : Nat, r < 8 → col < 8 → t.bufByte .cw (8 * r + col) = s.bufByte .cw (8 * col + r)) ∧
    exec .interleave s = .next t ∧
    ∀ u : State, exec .interleave s = .next u → ∃ v : State, exec .deinterleave u = .next v ∧
      v.bufBytes .cw = s.bufBytes .cw

/-! ### Transmit -/

/-- TX_SEND with no transmission active loads TXF with SYNC and the interleaved codeword of MSG and starts the engine
with the increments of SAMPLE_RATE; with one active it only records TX_BUSY (44_modulator.md R520). -/
def Obligations.TxSendStartsTheFrame : Prop :=
  encode .txSend = 0x00000020#32 ∧
  ∀ s : State, s.mem.wf = true →
    (s.tx.active = false → ∃ t : State, exec .txSend s = .next t ∧
      t = { s with
        mem := t.mem,
        tx := { active := true, k := 0, phi := 0#32, sacc := 0, aout := s.tx.aout,
                inc1 := BitVec.ofNat 32 ((2000 * 2 ^ 32 + s.sampleRate.toNat / 2) / s.sampleRate.toNat),
                inc0 := BitVec.ofNat 32 ((1200 * 2 ^ 32 + s.sampleRate.toNat / 2) / s.sampleRate.toNat) } } ∧
      t.mem.wf = true ∧ s.sameOutside t [.txf] ∧ t.bufByte .txf 0 = 0x29#8 ∧ t.bufByte .txf 1 = 0x9F#8 ∧
      ∀ r col : Nat, r < 8 → col < 8 →
        t.bufByte .txf (2 + (8 * col + r)) = (rsEncode (s.bufBytes .msg)).getD (8 * r + col) 0#8) ∧
    (s.tx.active = true → exec .txSend s = .next (s.raiseError .txBusy))

/-- TX_SEND_RAW sends the 64 bytes of CW as they are (44_modulator.md R521). -/
def Obligations.TxSendRawSendsCwAsItIs : Prop :=
  encode .txSendRaw = 0x00000021#32 ∧
  ∀ s : State, s.mem.wf = true →
    (s.tx.active = false → ∃ t : State, exec .txSendRaw s = .next t ∧
      t = { s with
        mem := t.mem,
        tx := { active := true, k := 0, phi := 0#32, sacc := 0, aout := s.tx.aout,
                inc1 := BitVec.ofNat 32 ((2000 * 2 ^ 32 + s.sampleRate.toNat / 2) / s.sampleRate.toNat),
                inc0 := BitVec.ofNat 32 ((1200 * 2 ^ 32 + s.sampleRate.toNat / 2) / s.sampleRate.toNat) } } ∧
      t.mem.wf = true ∧ s.sameOutside t [.txf] ∧ t.bufByte .txf 0 = 0x29#8 ∧ t.bufByte .txf 1 = 0x9F#8 ∧
      ∀ q : Nat, q < 64 → t.bufByte .txf (2 + q) = s.bufByte .cw q) ∧
    (s.tx.active = true → exec .txSendRaw s = .next (s.raiseError .txBusy))

/-- TX_ABORT empties AOUT and ends the transmission, keeping the bit index, the phase and the accumulator and signalling
no event; with none active it has no effect (44_modulator.md R522). -/
def Obligations.TxAbortEmptiesAout : Prop :=
  encode .txAbort = 0x00000022#32 ∧
  ∀ s : State,
    (s.tx.active = true → exec .txAbort s = .next { s with tx := { s.tx with aout := [], active := false } }) ∧
    (s.tx.active = false → exec .txAbort s = .next s)

/-- Sample n of a modulation belongs to symbol floor(600·n / Fs), at every rate of at least 600 Hz
(44_modulator.md R505). -/
def Obligations.SampleBelongsToItsSymbol : Prop :=
  ∀ (f : List Bool) (fs n : Nat), 600 ≤ fs →
    (modStateAt f fs n).k = 600 * n / fs ∧ (modStateAt f fs n).sacc = 600 * n % fs

/-- A frame of 528 bits gives exactly ceil(528·Fs/600) samples, the first of them 0: the loop has bits left before every
one of them and none after the last, and sample n is the table's entry for the loop's phase; 7040 samples at 8000 Hz,
38808 at 44100 Hz, 42240 at 48000 Hz (44_modulator.md R504, R507). -/
def Obligations.FrameHasExactlyItsSamples : Prop :=
  (∀ (f : List Bool) (fs count : Nat), f.length = 528 → 8000 ≤ fs → fs ≤ 192000 → count = (528 * fs + 599) / 600 →
    (modStateAt f fs count).k = 528 ∧ (modulate f fs).length = count ∧ (modulate f fs).head? = some 0#16 ∧
    ∀ n : Nat, n < count → (modStateAt f fs n).k < 528 ∧
      (modulate f fs)[n]? = some (BitVec.ofInt 16 (sine ((modStateAt f fs n).phi.toNat / 2 ^ 24)))) ∧
  ∀ f : List Bool, f.length = 528 →
    (modulate f 8000).length = 7040 ∧ (modulate f 44100).length = 38808 ∧ (modulate f 48000).length = 42240

/-- While a transmission is active, what the TX engine has pushed is a prefix of modulate of TXF's bits, and AOUT holds
the end of that prefix: every step of the machine keeps this (44_modulator.md R510, last sentence). -/
def Obligations.StepKeepsTheTransmissionOnModulate : Prop :=
  ∀ s t : State, s.ConfigOk → s.TransmitOk → s.FollowsModulate → step s = .next t → t.FollowsModulate

/-- The AOUT pop: an empty FIFO reads 0 and signals TX_UNDERRUN while a transmission is active; otherwise the oldest
sample leaves with bit 31 set, and the pop that empties the FIFO after the last bit ends the transmission with TX_DONE
(44_modulator.md R511, R512). -/
def Obligations.AoutReadPopsTheOldestSample : Prop :=
  ∀ (s : State) (a : Addr) (rest : List Action), s.schedule = .read a :: rest → a &&& 0xFFC#12 = 0x05C#12 →
    (s.tx.aout = [] → s.tx.active = true →
      step s = .next { s with schedule := rest, reads := 0#32 :: s.reads, irqStatus := s.irqStatus ||| 0x10#7 }) ∧
    (s.tx.aout = [] → s.tx.active = false → step s = .next { s with schedule := rest, reads := 0#32 :: s.reads }) ∧
    ∀ (x : Sample) (more : List Sample), s.tx.aout = x :: more →
      (more ≠ [] ∨ s.tx.active = false ∨ s.tx.k ≠ 528 →
        step s = .next { s with
          schedule := rest, reads := (0x80000000#32 ||| x.setWidth 32) :: s.reads, tx := { s.tx with aout := more } }) ∧
      (more = [] → s.tx.active = true → s.tx.k = 528 →
        step s = .next { s with
          schedule := rest, reads := (0x80000000#32 ||| x.setWidth 32) :: s.reads,
          tx := { s.tx with aout := [], active := false }, irqStatus := s.irqStatus ||| 0x08#7 })

/-! ### Receive -/

/-- RX_RESET with a session open re-initialises the receive state and nothing else; with none open it has no effect
(46_rx_controller.md R613, R602). -/
def Obligations.RxResetReopensTheSession : Prop :=
  encode .rxReset = 0x00000030#32 ∧
  ∀ s : State,
    (s.rxEn = true → exec .rxReset s = .next { s with
      rx := { ain := [], samples := 0#32,
              fe := { n := s.sampleRate.toNat / 600,
                      incM := BitVec.ofNat 32 ((2000 * 2 ^ 32 + s.sampleRate.toNat / 2) / s.sampleRate.toNat),
                      incS := BitVec.ofNat 32 ((1200 * 2 ^ 32 + s.sampleRate.toNat / 2) / s.sampleRate.toNat),
                      psiM := 0#32, psiS := 0#32,
                      dl := List.replicate (s.sampleRate.toNat / 600) { mi := 0, mq := 0, si := 0, sq := 0 },
                      dpos := 0, acc := { mi := 0, mq := 0, si := 0, sq := 0 } },
              pacc := 0, cidx := 0,
              cands := Vector.replicate 8
                { sr := 0#16, fill := 0, ah := Vector.replicate 16 0, th := Vector.replicate 16 0, hpos := 0 },
              ctl := { state := .search, confBest := 0, confScore := 0, confLeft := 0, lock := 0,
                       pbits := Vector.replicate 512 false, pcount := 0 } } }) ∧
    (s.rxEn = false → exec .rxReset s = .next s)

/-- A CTRL write opens the session on 0 to 1, closes it on 1 to 0 (the state IDLE, AIN emptied, the payload discarded),
and does nothing where RX_EN keeps its value (47_register_access.md R653, 46_rx_controller.md R612). -/
def Obligations.CtrlWriteOpensAndClosesTheSession : Prop :=
  ∀ (s : State) (a : Addr) (v : Word) (rest : List Action),
    s.schedule = .write a v :: rest → a &&& 0xFFC#12 = 0x004#12 →
    (s.rxEn = false → v.getLsbD 0 = true →
      ∃ t : State, step s = .next t ∧ t = { s with schedule := rest, rxEn := true, rx := t.rx } ∧
        exec .rxReset { s with schedule := rest, rxEn := true } = .next t) ∧
    (s.rxEn = true → v.getLsbD 0 = false →
      step s = .next { s with
        schedule := rest, rxEn := false,
        rx := { s.rx with ain := [], ctl := { s.rx.ctl with state := .idle, pcount := 0 } } }) ∧
    (v.getLsbD 0 = s.rxEn → step s = .next { s with schedule := rest })

/-- The AIN push: refused with RX_DISABLED while no session is open; dropped, counted and signalled while AIN is full;
otherwise the low 16 bits join AIN (46_rx_controller.md R600). -/
def Obligations.AinWritePushesASample : Prop :=
  ∀ (s : State) (a : Addr) (v : Word) (rest : List Action),
    s.schedule = .write a v :: rest → a &&& 0xFFC#12 = 0x058#12 →
    (s.rxEn = false → step s = .next (State.raiseError { s with schedule := rest } .rxDisabled)) ∧
    (s.rxEn = true → s.rx.ain.length = 1024 →
      step s = .next { s with
        schedule := rest, irqStatus := s.irqStatus ||| 0x04#7,
        overrunCnt := if s.overrunCnt = 0xFFFF#16 then 0xFFFF#16 else s.overrunCnt + 1#16 }) ∧
    (s.rxEn = true → s.rx.ain.length ≠ 1024 →
      step s = .next { s with schedule := rest, rx := { s.rx with ain := s.rx.ain ++ [v.extractLsb' 0 16] } })

/-- A turn of the RX engine with a session open and AIN not empty consumes the oldest sample: the products are the floors
of x·COS and x·SINE over 2^14 at the phases before they advance, the window slides by one, the tick accumulator advances by
4800. Where the step is no tick nothing else changes. Where it is one, the candidate whose turn it is takes D = EM - ES and
T = EM + ES of the new window sums into its window and histories, the next candidate follows, and the step ends with the
controller's action on that candidate with the decision D > 0. In any case the Host's side and the TX engine are kept. With
no session open or AIN empty the turn does nothing (46_rx_controller.md R601; 45_demodulator.md R551 to R554, R557 to R559,
R562; 43_framer.md R456). -/
def Obligations.RxTurnConsumesTheOldestSample : Prop :=
  (∀ (s : State) (x : Sample) (more : List Sample) (rest : List Action),
    s.rxEn = true → s.rx.ain = x :: more → s.schedule = .rxTurn :: rest →
    ∃ (t u : State) (p old : Quad) (j : Fin 8) (d : Int) (e : Nat),
      step s = .next t ∧
      p = { mi := x.toInt * cosine (s.rx.fe.psiM.toNat / 2 ^ 24) / 2 ^ 14,
            mq := x.toInt * sine (s.rx.fe.psiM.toNat / 2 ^ 24) / 2 ^ 14,
            si := x.toInt * cosine (s.rx.fe.psiS.toNat / 2 ^ 24) / 2 ^ 14,
            sq := x.toInt * sine (s.rx.fe.psiS.toNat / 2 ^ 24) / 2 ^ 14 } ∧
      old = s.rx.fe.dl.getD s.rx.fe.dpos { mi := 0, mq := 0, si := 0, sq := 0 } ∧
      u = { s with schedule := rest, rx := { s.rx with
        ain := more, samples := s.rx.samples + 1#32, pacc := s.rx.pacc + 4800,
        fe := { s.rx.fe with
          psiM := s.rx.fe.psiM + s.rx.fe.incM, psiS := s.rx.fe.psiS + s.rx.fe.incS,
          dl := s.rx.fe.dl.set s.rx.fe.dpos p, dpos := (s.rx.fe.dpos + 1) % s.rx.fe.n,
          acc := { mi := s.rx.fe.acc.mi + p.mi - old.mi, mq := s.rx.fe.acc.mq + p.mq - old.mq,
                   si := s.rx.fe.acc.si + p.si - old.si, sq := s.rx.fe.acc.sq + p.sq - old.sq } } } } ∧
      d = (u.rx.fe.acc.mi ^ 2 + u.rx.fe.acc.mq ^ 2) - (u.rx.fe.acc.si ^ 2 + u.rx.fe.acc.sq ^ 2) ∧
      (e : Int) = (u.rx.fe.acc.mi ^ 2 + u.rx.fe.acc.mq ^ 2) + (u.rx.fe.acc.si ^ 2 + u.rx.fe.acc.sq ^ 2) ∧
      j = s.rx.cidx ∧
      (s.rx.pacc + 4800 < s.sampleRate.toNat → t = u) ∧
      (s.sampleRate.toNat ≤ s.rx.pacc + 4800 →
        t = State.controllerTick { u with rx := { u.rx with
          pacc := s.rx.pacc + 4800 - s.sampleRate.toNat, cidx := j + 1,
          cands := s.rx.cands.set j
            { sr := (s.rx.cands[j].sr <<< 1) ||| (if 0 < d then 1#16 else 0#16), fill := min (s.rx.cands[j].fill + 1) 16,
              ah := s.rx.cands[j].ah.set s.rx.cands[j].hpos d.natAbs, th := s.rx.cands[j].th.set s.rx.cands[j].hpos e,
              hpos := s.rx.cands[j].hpos + 1 } } } j (decide (0 < d))) ∧
      t = { s with
        schedule := rest, rx := t.rx, mem := t.mem, rxResult := t.rxResult, irqStatus := t.irqStatus,
        syncCnt := t.syncCnt, truncCnt := t.truncCnt, delivCnt := t.delivCnt, failCnt := t.failCnt } ∧
      s.sameOutside t [.rxRaw, .rxCw, .rxData]) ∧
  ∀ (s : State) (rest : List Action), s.schedule = .rxTurn :: rest → s.rxEn = false ∨ s.rx.ain = [] →
    step s = .next { s with schedule := rest }

/-- After 16 ticks of one candidate its window holds the 16 decisions, the newest in bit 0, its fill is 16, and A16 and
T16 are the sums over exactly those 16 ticks, whatever stood there before (43_framer.md R456; 45_demodulator.md R558 to
R560). -/
def Obligations.SixteenTicksFillTheSyncWindow : Prop :=
  ∀ (c c' : Candidate) (ticks : List (Int × Nat)), ticks.length = 16 →
    c' = ticks.foldl (fun c p => c.update p.1 p.2) c →
    c'.fill = 16 ∧ (∀ i : Nat, i < 16 → c'.sr.getLsbD i = decide (0 < (ticks.getD (15 - i) (0, 0)).1)) ∧
    c'.a16 = (ticks.map (fun p => p.1.natAbs)).sum ∧ c'.t16 = (ticks.map (fun p => p.2)).sum ∧ c'.hpos = c.hpos

/-- A candidate's quality test holds exactly when T16 > 0 and 8·A16 is at least LOCK_RATIO·T16, and it matches exactly when
its fill is at least 16, its window differs from 0x299F in at most SYNC_TOL bits and its quality test holds. SEARCH and
CONFIRM on a tick of candidate j: a match in SEARCH opens the confirm window of 7 ticks; in CONFIRM a match with a larger
A16 becomes the best, and the last tick of the window locks on the best and counts the sync (43_framer.md R455;
45_demodulator.md R560; 46_rx_controller.md R603 to R605). -/
def Obligations.SearchConfirmsThenLocks : Prop :=
  (∀ (c : Candidate) (cfg : RxCfg),
    (c.qualOk cfg = true ↔ 0 < c.th.toList.sum ∧ cfg.lockRatio.toNat * c.th.toList.sum ≤ 8 * c.ah.toList.sum) ∧
    (c.syncMatch cfg = true ↔ 16 ≤ c.fill ∧
      (List.range 16).countP (fun i => c.sr.getLsbD i != (0x299F#16).getLsbD i) ≤ cfg.syncTol.toNat ∧
      c.qualOk cfg = true) ∧
    c.a16 = c.ah.toList.sum) ∧
  ∀ (s : State) (j : Fin 8) (b : Bool),
    (s.rx.ctl.state = .search → s.rx.cands[j].syncMatch s.rxCfg = false → s.controllerTick j b = s) ∧
    (s.rx.ctl.state = .search → s.rx.cands[j].syncMatch s.rxCfg = true →
      s.controllerTick j b = { s with rx := { s.rx with ctl := { s.rx.ctl with
        state := .confirm, confBest := j, confScore := s.rx.cands[j].a16, confLeft := 7 } } }) ∧
    (s.rx.ctl.state = .confirm → ∀ (best : Fin 8) (score : Nat),
      (s.rx.cands[j].syncMatch s.rxCfg = true ∧ s.rx.ctl.confScore < s.rx.cands[j].a16 → best = j ∧
        score = s.rx.cands[j].a16) →
      (¬ (s.rx.cands[j].syncMatch s.rxCfg = true ∧ s.rx.ctl.confScore < s.rx.cands[j].a16) →
        best = s.rx.ctl.confBest ∧ score = s.rx.ctl.confScore) →
      (2 ≤ s.rx.ctl.confLeft → s.controllerTick j b = { s with rx := { s.rx with ctl := { s.rx.ctl with
        confBest := best, confScore := score, confLeft := s.rx.ctl.confLeft - 1 } } }) ∧
      (s.rx.ctl.confLeft = 1 → s.controllerTick j b = { s with
        syncCnt := if s.syncCnt = 0xFFFF#16 then 0xFFFF#16 else s.syncCnt + 1#16,
        rx := { s.rx with ctl := { s.rx.ctl with
          state := .payload, confBest := best, confScore := score, confLeft := 0, lock := best, pcount := 0 } } }))

/-- In PAYLOAD a tick of another candidate changes nothing; a decision of the locked candidate that passes the quality test
and is not the 512th is stored as the next payload bit and nothing else changes; a decision that fails the quality test, the
512th included, abandons the payload: it is counted, the search starts again with every fill 0, and no result, event or
error comes of it (46_rx_controller.md R606, R607, R611). -/
def Obligations.PayloadTickCollectsOrAbandons : Prop :=
  ∀ (s : State) (b : Bool), s.rx.ctl.state = .payload →
    (∀ j : Fin 8, j ≠ s.rx.ctl.lock → s.controllerTick j b = s) ∧
    (s.rx.cands[s.rx.ctl.lock].qualOk s.rxCfg = true → s.rx.ctl.pcount.val < 511 →
      s.controllerTick s.rx.ctl.lock b = { s with rx := { s.rx with ctl := { s.rx.ctl with
        pbits := s.rx.ctl.pbits.set s.rx.ctl.pcount b, pcount := s.rx.ctl.pcount + 1 } } }) ∧
    (s.rx.cands[s.rx.ctl.lock].qualOk s.rxCfg = false →
      ∃ t : State, s.controllerTick s.rx.ctl.lock b = t ∧
        t = { s with
          truncCnt := if s.truncCnt = 0xFFFF#16 then 0xFFFF#16 else s.truncCnt + 1#16,
          rx := { s.rx with cands := t.rx.cands, ctl := { s.rx.ctl with
            state := .search, pcount := 0, lock := 0, confBest := 0, confScore := 0, confLeft := 0,
            pbits := s.rx.ctl.pbits.set s.rx.ctl.pcount b } } } ∧
        ∀ j : Fin 8, t.rx.cands[j] = { s.rx.cands[j] with fill := 0 })

/-- The 512th good decision commits the packet in the same step: RX_RAW is the 512 bits as bytes, most significant bit
first; RX_CW, RX_DATA, RX_RESULT, the counters and the events are those of the decode of the de-interleaved packet, with
RX_LOST where a held result was replaced; and the search starts again (46_rx_controller.md R606, R608, R609, R611). -/
def Obligations.LastPayloadBitCommitsThePacket : Prop :=
  ∀ (s : State) (b : Bool) (bits : List Bool) (raw : List Byte),
    s.mem.wf = true → s.rx.ctl.state = .payload → s.rx.ctl.pcount.val = 511 →
    s.rx.cands[s.rx.ctl.lock].qualOk s.rxCfg = true → bits = s.rx.ctl.pbits.toList.set 511 b →
    raw = (List.range 64).map (fun q => weighedByte ((bits.drop (8 * q)).take 8)) →
    ∃ t : State, s.controllerTick s.rx.ctl.lock b = t ∧ t.bufBytes .rxRaw = raw ∧ t.mem.wf = true ∧
      s.sameOutside t [.rxRaw, .rxCw, .rxData] ∧
      t = { s with
        mem := t.mem, rxResult := t.rxResult, irqStatus := t.irqStatus, delivCnt := t.delivCnt, failCnt := t.failCnt,
        rx := { s.rx with cands := t.rx.cands, ctl := { s.rx.ctl with
          state := .search, pcount := 0, lock := 0, confBest := 0, confScore := 0, confLeft := 0,
          pbits := s.rx.ctl.pbits.set s.rx.ctl.pcount b } } } ∧
      (∀ j : Fin 8, t.rx.cands[j] = { s.rx.cands[j] with fill := 0 }) ∧
      (∀ (data cw : List Byte) (count : Nat), rsDecode (deinterleave raw) = .success data cw count →
        t.bufBytes .rxCw = cw ∧ t.bufBytes .rxData = data ∧
        t.rxResult = { valid := true, ok := true, count := BitVec.ofNat 4 count, reason := .none,
                       lost := s.rxResult.lost || s.rxResult.valid } ∧
        t.delivCnt = (if s.delivCnt = 0xFFFF#16 then 0xFFFF#16 else s.delivCnt + 1#16) ∧ t.failCnt = s.failCnt ∧
        t.irqStatus = s.irqStatus ||| (if s.rxResult.valid then 0x41#7 else 0x01#7)) ∧
      ∀ reason : FailReason, rsDecode (deinterleave raw) = .uncorrectable reason →
        t.bufBytes .rxCw = deinterleave raw ∧ t.bufBytes .rxData = List.replicate 48 0#8 ∧
        t.rxResult = { valid := true, ok := false, count := 0#4, reason := reason,
                       lost := s.rxResult.lost || s.rxResult.valid } ∧
        t.failCnt = (if s.failCnt = 0xFFFF#16 then 0xFFFF#16 else s.failCnt + 1#16) ∧ t.delivCnt = s.delivCnt ∧
        t.irqStatus = s.irqStatus ||| (if s.rxResult.valid then 0x42#7 else 0x02#7)

/-- The transmit and receive rules are inverse on a clean channel: the 512 payload bits of a message's frame assemble to
its interleaved packet, which de-interleaves and decodes to the message with count 0 (43_framer.md R459;
41_rs_codec.md R375). -/
def Obligations.CleanChannelDeliversTheMessage : Prop :=
  ∀ m : List Byte, m.length = 48 →
    (frameBitList (frameBytes (interleave (rsEncode m)))).length = 528 ∧
    assemblePayload ((frameBitList (frameBytes (interleave (rsEncode m)))).drop 16) = interleave (rsEncode m) ∧
    rsDecode (deinterleave (assemblePayload ((frameBitList (frameBytes (interleave (rsEncode m)))).drop 16)))
      = .success m (rsEncode m) 0

/-! ### Invariants -/

/-- After reset every invariant holds. -/
def Obligations.ResetMeetsEveryInvariant : Prop := State.reset.Inv ∧ State.reset.FollowsModulate

/-- Every step keeps the memory in canonical form and lists only bytes of buffers. -/
def Obligations.StepKeepsTheMemoryCanonical : Prop :=
  ∀ s t : State, s.MemoryOk → step s = .next t → t.MemoryOk

/-- Every step keeps the configuration legal and the TX engine in its ranges: AOUT is empty while no transmission is
active, holds a sample while the last bit's samples are not all popped, and never more than 1024 (10_state.md R68, R70,
R100; 44_modulator.md R511, R513). -/
def Obligations.StepKeepsTheTransmitterInRange : Prop :=
  ∀ s t : State, s.ConfigOk → s.TransmitOk → step s = .next t → t.ConfigOk ∧ t.TransmitOk

/-- Every step keeps the receive state space (46_rx_controller.md R615). -/
def Obligations.StepKeepsTheReceiveStateSpace : Prop :=
  ∀ s t : State, s.ReceiveOk → step s = .next t → t.ReceiveOk

/-- Every step keeps, while a session is open, the session constants of SAMPLE_RATE, each window sum equal to the sum over
the delay line, the products in -32768..32768 and the accumulator below Fs (45_demodulator.md R550, R552, R553, R557). -/
def Obligations.StepKeepsTheWindowSumsExact : Prop :=
  ∀ s t : State, s.ConfigOk → s.SessionOk → step s = .next t → t.SessionOk

/-- Every step keeps the result registers legal (COUNT 0..8, 0 on failure, REASON NONE on success) and MULTI beside a code
(10_state.md R65, R74, R75). -/
def Obligations.StepKeepsTheResultsLegal : Prop :=
  ∀ s t : State, s.ResultsOk → s.ErrorOk → step s = .next t → t.ResultsOk ∧ t.ErrorOk

/-! ### The agents -/

/-- A turn of the TX engine with a transmission active, a bit left and room in AOUT pushes the table's entry for the top 8
bits of the phase, advances the phase by the increment of the frame bit under way, and advances the symbol accumulator by
600, going on to the next bit where it reaches Fs; otherwise the turn does nothing (44_modulator.md R510). And a turn of the
TX engine and a turn of the RX engine commute, in every state: the result does not depend on which comes first
(70_reset_and_hazards.md R770). -/
def Obligations.TxTurnPushesASampleAndCommutesWithRx : Prop :=
  (∀ (s : State) (rest : List Action) (b : Bool), s.schedule = .txTurn :: rest →
    b = (s.bufByte .txf (s.tx.k / 8)).getLsbD (7 - s.tx.k % 8) →
    (s.tx.active = true → s.tx.k < 528 → s.tx.aout.length < 1024 →
      step s = .next { s with schedule := rest, tx := { s.tx with
        aout := s.tx.aout ++ [BitVec.ofInt 16 (sine (s.tx.phi.toNat / 2 ^ 24))],
        phi := s.tx.phi + (if b then s.tx.inc1 else s.tx.inc0),
        sacc := if s.sampleRate.toNat ≤ s.tx.sacc + 600 then s.tx.sacc + 600 - s.sampleRate.toNat else s.tx.sacc + 600,
        k := if s.sampleRate.toNat ≤ s.tx.sacc + 600 then s.tx.k + 1 else s.tx.k } }) ∧
    (s.tx.active = false ∨ 528 ≤ s.tx.k ∨ 1024 ≤ s.tx.aout.length → step s = .next { s with schedule := rest })) ∧
  ∀ s : State, s.txTurn.rxTurn = s.rxTurn.txTurn

/-- A step that is neither an RX engine turn nor a reset of the block leaves RX_RAW, RX_CW and RX_DATA alone, and a step
that is neither a TX_SEND, a TX_SEND_RAW nor a reset leaves TXF alone (20_memory.md R171). -/
def Obligations.BuffersHaveOneWriter : Prop :=
  ∀ s t : State, step s = .next t → s.nextAction ≠ some .hardReset →
    (∀ a w, s.nextAction = some (.write a w) → a &&& 0xFFC#12 = 0x00C#12 → w ≠ encode .softReset) →
    (s.nextAction ≠ some .rxTurn →
      t.bufBytes .rxRaw = s.bufBytes .rxRaw ∧ t.bufBytes .rxCw = s.bufBytes .rxCw ∧
      t.bufBytes .rxData = s.bufBytes .rxData) ∧
    ((∀ a w, s.nextAction = some (.write a w) → a &&& 0xFFC#12 = 0x00C#12 →
        w ≠ encode .txSend ∧ w ≠ encode .txSendRaw) →
      t.bufBytes .txf = s.bufBytes .txf)

/-! ### The register port -/

/-- The address map of 20_memory.md R157, over all 4096 addresses: below 0x060 the 24 registers at the offsets of
10_state.md R60, each buffer's words in its range, every other address unmapped. -/
def Obligations.AddressMapIsComplete : Prop :=
  ∀ a : Addr,
    (a &&& 0xFFC#12 = 0x000#12 → target a = .reg .id) ∧
    (a &&& 0xFFC#12 = 0x004#12 → target a = .reg .ctrl) ∧
    (a &&& 0xFFC#12 = 0x008#12 → target a = .reg .status) ∧
    (a &&& 0xFFC#12 = 0x00C#12 → target a = .reg .cmd) ∧
    (a &&& 0xFFC#12 = 0x010#12 → target a = .reg .err) ∧
    (a &&& 0xFFC#12 = 0x014#12 → target a = .reg .irqStatus) ∧
    (a &&& 0xFFC#12 = 0x018#12 → target a = .reg .irqEnable) ∧
    (a &&& 0xFFC#12 = 0x01C#12 → target a = .reg .sampleRate) ∧
    (a &&& 0xFFC#12 = 0x020#12 → target a = .reg .syncWord) ∧
    (a &&& 0xFFC#12 = 0x024#12 → target a = .reg .rxCfg) ∧
    (a &&& 0xFFC#12 = 0x028#12 → target a = .reg .gfA) ∧
    (a &&& 0xFFC#12 = 0x02C#12 → target a = .reg .gfB) ∧
    (a &&& 0xFFC#12 = 0x030#12 → target a = .reg .gfR) ∧
    (a &&& 0xFFC#12 = 0x034#12 → target a = .reg .rsResult) ∧
    (a &&& 0xFFC#12 = 0x038#12 → target a = .reg .rxResult) ∧
    (a &&& 0xFFC#12 = 0x03C#12 → target a = .reg .rxStats0) ∧
    (a &&& 0xFFC#12 = 0x040#12 → target a = .reg .rxStats1) ∧
    (a &&& 0xFFC#12 = 0x044#12 → target a = .reg .rxOvr) ∧
    (a &&& 0xFFC#12 = 0x048#12 → target a = .reg .rxSamples) ∧
    (a &&& 0xFFC#12 = 0x04C#12 → target a = .reg .diag) ∧
    (a &&& 0xFFC#12 = 0x050#12 → target a = .reg .fifoLevel) ∧
    (a &&& 0xFFC#12 = 0x054#12 → target a = .reg .txStat) ∧
    (a &&& 0xFFC#12 = 0x058#12 → target a = .reg .ainData) ∧
    (a &&& 0xFFC#12 = 0x05C#12 → target a = .reg .aoutData) ∧
    (0x100 ≤ a.toNat → a.toNat < 0x130 → target a = .word .msg ((a.toNat - 0x100) / 4)) ∧
    (0x140 ≤ a.toNat → a.toNat < 0x180 → target a = .word .cw ((a.toNat - 0x140) / 4)) ∧
    (0x180 ≤ a.toNat → a.toNat < 0x190 → target a = .word .syn ((a.toNat - 0x180) / 4)) ∧
    (0x200 ≤ a.toNat → a.toNat < 0x244 → target a = .word .txf ((a.toNat - 0x200) / 4)) ∧
    (0x280 ≤ a.toNat → a.toNat < 0x2C0 → target a = .word .rxRaw ((a.toNat - 0x280) / 4)) ∧
    (0x2C0 ≤ a.toNat → a.toNat < 0x300 → target a = .word .rxCw ((a.toNat - 0x2C0) / 4)) ∧
    (0x300 ≤ a.toNat → a.toNat < 0x330 → target a = .word .rxData ((a.toNat - 0x300) / 4)) ∧
    (target a = .unmapped ↔
      (0x060 ≤ a.toNat ∧ a.toNat < 0x100) ∨ (0x130 ≤ a.toNat ∧ a.toNat < 0x140) ∨
      (0x190 ≤ a.toNat ∧ a.toNat < 0x200) ∨ (0x244 ≤ a.toNat ∧ a.toNat < 0x280) ∨ 0x330 ≤ a.toNat)

/-- Refused accesses: a write to a read-only register or buffer changes nothing and raises RO_WRITE; a write to an unmapped
word changes nothing and raises UNMAPPED; a read of one returns 0 and raises UNMAPPED; a read of CMD or AIN_DATA returns 0
and records no error; writes to ERR, RX_STATS0, RX_STATS1, RX_OVR, IRQ_STATUS and RX_RESULT are not refused
(20_memory.md R156). -/
def Obligations.RefusedAccessesOnlyRecordAnError : Prop :=
  ∀ (s : State) (a : Addr) (v : Word) (rest : List Action) (s' : State), s' = { s with schedule := rest } →
    (s.schedule = .write a v :: rest →
      (target a ∈ [.reg .id, .reg .status, .reg .syncWord, .reg .gfR, .reg .rsResult, .reg .rxSamples, .reg .diag,
          .reg .fifoLevel, .reg .txStat, .reg .aoutData] → step s = .next (s'.raiseError .roWrite)) ∧
      (∀ b ∈ [Buf.syn, .txf, .rxRaw, .rxCw, .rxData], ∀ w : Nat, target a = .word b w →
        step s = .next (s'.raiseError .roWrite)) ∧
      (target a = .unmapped → step s = .next (s'.raiseError .unmapped)) ∧
      (target a ∈ [.reg .rxStats0, .reg .rxStats1, .reg .rxOvr, .reg .irqStatus, .reg .rxResult] →
        ∃ t : State, step s = .next t ∧ t.err = s.err) ∧
      (target a = .reg .err → ∃ t : State, step s = .next t ∧ t.err = { code := .none, multi := false })) ∧
    (s.schedule = .read a :: rest →
      (target a = .unmapped →
        step s = .next (State.raiseError { s' with reads := 0#32 :: s.reads } .unmapped)) ∧
      (target a ∈ [.reg .cmd, .reg .ainData] → step s = .next { s' with reads := 0#32 :: s.reads }))

/-- Every read but one of AOUT_DATA or of an unmapped word has no side effect, and a second such read with no other turn
between them returns the same word (20_memory.md R159). -/
def Obligations.ReadsHaveNoSideEffect : Prop :=
  ∀ (s : State) (a : Addr) (rest : List Action), s.schedule = .read a :: .read a :: rest →
    target a ≠ .unmapped → target a ≠ .reg .aoutData →
    ∃ (v : Word) (t : State), step s = .next t ∧ t = { s with schedule := .read a :: rest, reads := v :: s.reads } ∧
      step t = .next { s with schedule := rest, reads := v :: v :: s.reads }

/-- A word written to MSG or CW puts bits 7:0 in the lowest byte, reads back as written, and leaves every byte outside its
four and every register alone (20_memory.md R153, 47_register_access.md R662). -/
def Obligations.BufferWordReadsBackAsWritten : Prop :=
  ∀ (s : State) (a : Addr) (v : Word) (rest : List Action) (b : Buf) (w : Nat), s.mem.wf = true →
    s.schedule = .write a v :: .read a :: rest → target a = .word b w → b.writable = true →
    ∃ t : State, step s = .next t ∧ t = { s with schedule := .read a :: rest, mem := t.mem } ∧ t.mem.wf = true ∧
      (∀ i : Nat, i < 4 → t.bufByte b (4 * w + i) = v.extractLsb' (8 * i) 8) ∧
      (∀ x : Nat, x < b.base + 4 * w ∨ b.base + 4 * w + 4 ≤ x → t.mem.read x = s.mem.read x) ∧
      step t = .next { t with schedule := rest, reads := v :: s.reads }

/-- SAMPLE_RATE and RX_CFG writes: refused with CONFIG_BUSY while the units that use them run, that test first; refused with
BAD_VALUE for an illegal value; otherwise accepted, reserved bits ignored (47_register_access.md R655, R656). -/
def Obligations.ConfigurationWritesAreGuarded : Prop :=
  ∀ (s : State) (a : Addr) (v : Word) (rest : List Action) (s' : State), s' = { s with schedule := rest } →
    s.schedule = .write a v :: rest →
    (a &&& 0xFFC#12 = 0x01C#12 →
      (s.tx.active = true ∨ s.rxEn = true → step s = .next (s'.raiseError .configBusy)) ∧
      (s.tx.active = false → s.rxEn = false → v.toNat < 8000 ∨ 192000 < v.toNat →
        step s = .next (s'.raiseError .badValue)) ∧
      (s.tx.active = false → s.rxEn = false → 8000 ≤ v.toNat → v.toNat ≤ 192000 →
        step s = .next { s' with sampleRate := v })) ∧
    (a &&& 0xFFC#12 = 0x024#12 →
      (s.rxEn = true → step s = .next (s'.raiseError .configBusy)) ∧
      (s.rxEn = false → 8 < (v.extractLsb' 4 4).toNat → step s = .next (s'.raiseError .badValue)) ∧
      (s.rxEn = false → (v.extractLsb' 4 4).toNat ≤ 8 →
        step s = .next { s' with rxCfg := { syncTol := v.extractLsb' 0 2, lockRatio := v.extractLsb' 4 4 } }))

/-- The plain register writes. They clear ERR by any value without touching IRQ_STATUS; IRQ_STATUS bits by writing 1;
RX_RESULT.VALID and LOST by writing 1 to bits 0 and 16; the counters of RX_STATS0, RX_STATS1 and RX_OVR by any value; and
GF_A, GF_B and IRQ_ENABLE take the low bits, the reserved ones being ignored
(47_register_access.md R654, R657 to R661). -/
def Obligations.PlainWritesChangeOnlyTheirBits : Prop :=
  ∀ (s : State) (a : Addr) (v : Word) (rest : List Action) (s' : State), s' = { s with schedule := rest } →
    s.schedule = .write a v :: rest →
    (a &&& 0xFFC#12 = 0x010#12 → step s = .next { s' with err := { code := .none, multi := false } }) ∧
    (a &&& 0xFFC#12 = 0x014#12 → ∃ q : BitVec 7, step s = .next { s' with irqStatus := q } ∧
      ∀ i : Nat, i < 7 → q.getLsbD i = (s.irqStatus.getLsbD i && !v.getLsbD i)) ∧
    (a &&& 0xFFC#12 = 0x038#12 → step s = .next { s' with rxResult := { s.rxResult with
      valid := if v.getLsbD 0 then false else s.rxResult.valid,
      lost := if v.getLsbD 16 then false else s.rxResult.lost } }) ∧
    (a &&& 0xFFC#12 = 0x03C#12 → step s = .next { s' with syncCnt := 0#16, truncCnt := 0#16 }) ∧
    (a &&& 0xFFC#12 = 0x040#12 → step s = .next { s' with delivCnt := 0#16, failCnt := 0#16 }) ∧
    (a &&& 0xFFC#12 = 0x044#12 → step s = .next { s' with overrunCnt := 0#16 }) ∧
    (a &&& 0xFFC#12 = 0x028#12 → step s = .next { s' with gfA := BitVec.ofNat 8 (v.toNat % 256) }) ∧
    (a &&& 0xFFC#12 = 0x02C#12 → step s = .next { s' with gfB := BitVec.ofNat 8 (v.toNat % 256) }) ∧
    (a &&& 0xFFC#12 = 0x018#12 → step s = .next { s' with irqEnable := BitVec.ofNat 7 (v.toNat % 128) })

/-- A raised error is kept if it is the first since the last clear and otherwise only sets MULTI; either way IRQ_STATUS bit 5
is set and nothing else changes (60_exceptions.md R701). -/
def Obligations.FirstErrorWins : Prop :=
  ∀ (s : State) (c : ErrCode),
    (s.err.code = .none → s.raiseError c =
      { s with err := { code := c, multi := s.err.multi }, irqStatus := s.irqStatus ||| 0x20#7 }) ∧
    (s.err.code ≠ .none → s.raiseError c =
      { s with err := { code := s.err.code, multi := true }, irqStatus := s.irqStatus ||| 0x20#7 })

/-- Every read but one of AOUT_DATA or of an unmapped word returns the fields of its register as 10_state.md R61 to R83 lay
them out, reserved bits 0, or the four bytes of its buffer word, those past the buffer's end (TXF bytes 66 and 67) being 0
(47_register_access.md R650; 20_memory.md R153, R156; 60_exceptions.md R700, R711); it changes nothing. -/
def Obligations.ReadsReturnTheirFields : Prop :=
  ∀ (s : State) (a : Addr) (rest : List Action), s.schedule = .read a :: rest →
    target a ≠ .unmapped → target a ≠ .reg .aoutData →
    ∃ v : Word, step s = .next { s with schedule := rest, reads := v :: s.reads } ∧
      (a &&& 0xFFC#12 = 0x000#12 → v = 0x43424152#32) ∧
      (a &&& 0xFFC#12 = 0x004#12 → v = if s.rxEn then 1#32 else 0#32) ∧
      (a &&& 0xFFC#12 = 0x008#12 →
        v.getLsbD 0 = s.tx.active ∧ v.getLsbD 1 = s.rxEn ∧
        v.extractLsb' 2 2 = (match s.rx.ctl.state with | .idle => 0#2 | .search => 1#2 | .confirm => 1#2 | .payload => 2#2) ∧
        v.getLsbD 4 = decide (s.rx.ctl.state = .confirm) ∧ v.getLsbD 5 = decide (s.rx.ctl.state = .payload) ∧
        v.getLsbD 6 = s.rxResult.valid ∧ (v.getLsbD 7 = true ↔ s.irqStatus &&& s.irqEnable ≠ 0#7) ∧
        v.extractLsb' 8 24 = 0#24) ∧
      (a &&& 0xFFC#12 = 0x00C#12 ∨ a &&& 0xFFC#12 = 0x058#12 → v = 0#32) ∧
      (a &&& 0xFFC#12 = 0x010#12 →
        v.extractLsb' 0 8 = (match s.err.code with
          | .none => 0x00#8 | .illegalCmd => 0x01#8 | .txBusy => 0x02#8 | .gfDomain => 0x03#8 | .configBusy => 0x04#8
          | .badValue => 0x05#8 | .roWrite => 0x06#8 | .unmapped => 0x07#8 | .rxDisabled => 0x08#8) ∧
        v.getLsbD 8 = s.err.multi ∧ v.extractLsb' 9 23 = 0#23) ∧
      (a &&& 0xFFC#12 = 0x014#12 → v.toNat = s.irqStatus.toNat) ∧
      (a &&& 0xFFC#12 = 0x018#12 → v.toNat = s.irqEnable.toNat) ∧
      (a &&& 0xFFC#12 = 0x01C#12 → v = s.sampleRate) ∧
      (a &&& 0xFFC#12 = 0x020#12 → v = 0x0000299F#32) ∧
      (a &&& 0xFFC#12 = 0x024#12 → v.toNat = s.rxCfg.syncTol.toNat + 2 ^ 4 * s.rxCfg.lockRatio.toNat) ∧
      (a &&& 0xFFC#12 = 0x028#12 → v.toNat = s.gfA.toNat) ∧
      (a &&& 0xFFC#12 = 0x02C#12 → v.toNat = s.gfB.toNat) ∧
      (a &&& 0xFFC#12 = 0x030#12 → v.toNat = s.gfR.toNat) ∧
      (a &&& 0xFFC#12 = 0x034#12 →
        v.getLsbD 0 = s.rsResult.ok ∧ v.extractLsb' 1 3 = 0#3 ∧ v.extractLsb' 4 4 = s.rsResult.count ∧
        v.extractLsb' 8 2 = (match s.rsResult.reason with
          | .none => 0#2 | .locatorTooLong => 1#2 | .rootMismatch => 2#2 | .verify => 3#2) ∧
        v.extractLsb' 10 22 = 0#22) ∧
      (a &&& 0xFFC#12 = 0x038#12 →
        v.getLsbD 0 = s.rxResult.valid ∧ v.getLsbD 1 = s.rxResult.ok ∧ v.extractLsb' 2 2 = 0#2 ∧
        v.extractLsb' 4 4 = s.rxResult.count ∧
        v.extractLsb' 8 2 = (match s.rxResult.reason with
          | .none => 0#2 | .locatorTooLong => 1#2 | .rootMismatch => 2#2 | .verify => 3#2) ∧
        v.extractLsb' 10 6 = 0#6 ∧ v.getLsbD 16 = s.rxResult.lost ∧ v.extractLsb' 17 15 = 0#15) ∧
      (a &&& 0xFFC#12 = 0x03C#12 → v.toNat = s.syncCnt.toNat + 2 ^ 16 * s.truncCnt.toNat) ∧
      (a &&& 0xFFC#12 = 0x040#12 → v.toNat = s.delivCnt.toNat + 2 ^ 16 * s.failCnt.toNat) ∧
      (a &&& 0xFFC#12 = 0x044#12 → v.toNat = s.overrunCnt.toNat) ∧
      (a &&& 0xFFC#12 = 0x048#12 → v = s.rx.samples) ∧
      (a &&& 0xFFC#12 = 0x04C#12 →
        v.extractLsb' 0 3 = (if s.rx.ctl.state = .payload then BitVec.ofNat 3 s.rx.ctl.lock.val else 0#3) ∧
        v.extractLsb' 3 1 = 0#1 ∧ v.extractLsb' 4 3 = BitVec.ofNat 3 s.rx.cidx.val ∧ v.extractLsb' 7 1 = 0#1 ∧
        v.extractLsb' 8 3 = (if s.rx.ctl.state = .confirm then BitVec.ofNat 3 s.rx.ctl.confBest.val else 0#3) ∧
        v.extractLsb' 11 1 = 0#1 ∧
        v.extractLsb' 12 3 = (if s.rx.ctl.state = .confirm then BitVec.ofNat 3 s.rx.ctl.confLeft else 0#3) ∧
        v.extractLsb' 15 1 = 0#1 ∧
        v.extractLsb' 16 9 = (if s.rx.ctl.state = .payload then BitVec.ofNat 9 s.rx.ctl.pcount.val else 0#9) ∧
        v.extractLsb' 25 7 = 0#7) ∧
      (a &&& 0xFFC#12 = 0x050#12 →
        v.extractLsb' 0 11 = BitVec.ofNat 11 s.rx.ain.length ∧ v.extractLsb' 11 5 = 0#5 ∧
        v.extractLsb' 16 11 = BitVec.ofNat 11 s.tx.aout.length ∧ v.extractLsb' 27 5 = 0#5) ∧
      (a &&& 0xFFC#12 = 0x054#12 → v.extractLsb' 0 10 = BitVec.ofNat 10 s.tx.k ∧ v.extractLsb' 10 22 = 0#22) ∧
      (a &&& 0xFFC#12 = 0x240#12 →
        v.extractLsb' 0 8 = s.mem.read 0x240 ∧ v.extractLsb' 8 8 = s.mem.read 0x241 ∧ v.extractLsb' 16 16 = 0#16) ∧
      (0x100 ≤ a.toNat → a &&& 0xFFC#12 ≠ 0x240#12 → ∀ i : Nat, i < 4 →
        v.extractLsb' (8 * i) 8 = s.mem.read ((a &&& 0xFFC#12).toNat + i))

/-! ### Reset and NOP -/

/-- NOP has no effect; its word is 0x00000000, and 0x00000100 is no command (47_register_access.md R665). -/
def Obligations.NopChangesNothing : Prop :=
  encode .nop = 0x00000000#32 ∧ (∀ s : State, exec .nop s = .next s) ∧ ∀ i : Instr, decode 0x00000100#32 ≠ .ok i

/-- SOFT_RESET and the hardware reset have the same effect: every register, buffer and hidden state takes its reset value;
only what is outside the block stays (70_reset_and_hazards.md R750, 47_register_access.md R666; that the schedule and the
words already read stay is the model's choice, log entry 9). -/
def Obligations.ResetRestoresEveryValue : Prop :=
  encode .softReset = 0x000000FF#32 ∧
  ∀ (s : State) (rest : List Action),
    exec .softReset s = .next { State.reset with schedule := s.schedule, reads := s.reads } ∧
    (s.schedule = .hardReset :: rest → step s = .next { State.reset with schedule := rest, reads := s.reads })

/-- After reset no engine can take a step and the registers read their reset values: ID, SAMPLE_RATE 44100, SYNC_WORD,
RX_CFG 0x50, and 0 everywhere else (10_state.md R120, 70_reset_and_hazards.md R751; that nothing is scheduled at reset is
the model's choice, log entry 1). -/
def Obligations.AfterResetTheBlockIsIdle : Prop :=
  State.reset.txReady = false ∧ State.reset.rxReady = false ∧ step State.reset = .next State.reset ∧
  State.reset.irqOut = false ∧
  (∀ a : Addr, (State.reset.hostRead a).1 =
    if a &&& 0xFFC#12 = 0x000#12 then 0x43424152#32
    else if a &&& 0xFFC#12 = 0x01C#12 then 44100#32
    else if a &&& 0xFFC#12 = 0x020#12 then 0x0000299F#32
    else if a &&& 0xFFC#12 = 0x024#12 then 0x00000050#32
    else 0#32)
end

