-- ==== Sys2Proof/Laws/Codec.lean ====
section
/-! SUPPORT. What the codec, the interleaver and the framer return: lengths, and the outcomes of the decoder. -/

namespace Sys2Proof.Machine

@[simp] theorem rsShift_length {rem : List Byte} {m : Byte} (h : rem.length = 16) : (rsShift rem m).length = 16 := by
  have hg : rsGenerator.length = 17 := by decide
  simp [rsShift, h, hg]

theorem foldl_rsShift_length (l : List Byte) {rem : List Byte} (h : rem.length = 16) :
    (l.foldl rsShift rem).length = 16 := by
  induction l generalizing rem with
  | nil => simpa using h
  | cons m l ih => exact ih (rsShift_length h)

@[simp] theorem rsParity_length (m : List Byte) : (rsParity m).length = 16 :=
  foldl_rsShift_length m (List.length_replicate ..)

@[simp] theorem rsEncode_length_eq (m : List Byte) : (rsEncode m).length = m.length + 16 := by simp [rsEncode]

@[simp] theorem syndromes_length (r : List Byte) : (syndromes r).length = 16 := by simp [syndromes]

@[simp] theorem interleave_length (c : List Byte) : (interleave c).length = 64 := by simp [interleave]

@[simp] theorem deinterleave_length (c : List Byte) : (deinterleave c).length = 64 := by simp [deinterleave]

@[simp] theorem frameBytes_length (t : List Byte) : (frameBytes t).length = t.length + 2 := by simp [frameBytes]

@[simp] theorem frameBitList_length (b : List Byte) : (frameBitList b).length = 528 := by
  simp [frameBitList, Config.frameBits]

@[simp] theorem assemblePayload_length (b : List Bool) : (assemblePayload b).length = 64 := by simp [assemblePayload]

@[simp] theorem bufBytes_length (s : State) (b : Buf) : (s.bufBytes b).length = b.size := by simp [State.bufBytes]

/-- Correcting changes bytes in place. -/
theorem correctErrors_length {om lam : List Byte} {len : Nat} {degrees : List Nat} {r r' : List Byte}
    (h : correctErrors om lam len degrees r = some r') : r'.length = r.length := by
  induction degrees generalizing r with
  | nil => simp only [correctErrors, Option.some.injEq] at h; rw [h]
  | cons d ds ih =>
    simp only [correctErrors] at h
    split at h
    · cases h
    · simpa using ih h

/-- Everything the decoder can answer: the clean word, one of the three failures, or a corrected word all of whose
syndromes are 0 (41_rs_codec.md R365). -/
theorem rsDecode_cases (r : List Byte) :
    ((syndromes r).all (· == 0#8) = true ∧ rsDecode r = .success (r.take 48) r 0) ∨
    (∃ f : FailReason, f ≠ .none ∧ rsDecode r = .uncorrectable f) ∨
    ∃ r' : List Byte, (syndromes r).all (· == 0#8) = false ∧ (berlekampMassey (syndromes r)).len ≤ 8 ∧
      (chienSearch (berlekampMassey (syndromes r)).lam).length = (berlekampMassey (syndromes r)).len ∧
      correctErrors
        (errorEvaluator (syndromes r) (berlekampMassey (syndromes r)).lam (berlekampMassey (syndromes r)).len)
        (berlekampMassey (syndromes r)).lam (berlekampMassey (syndromes r)).len
        (chienSearch (berlekampMassey (syndromes r)).lam) r = some r' ∧
      (syndromes r').all (· == 0#8) = true ∧
      rsDecode r = .success (r'.take 48) r' (berlekampMassey (syndromes r)).len := by
  cases h0 : (syndromes r).all (· == 0#8)
  case true => exact .inl ⟨rfl, by simp only [rsDecode, h0, if_true, RsOutcome.ofWord]⟩
  right
  by_cases h1 : (berlekampMassey (syndromes r)).len > 8
  · exact .inl ⟨.locatorTooLong, by decide, by simp [rsDecode, h0, h1]⟩
  by_cases h2 : (chienSearch (berlekampMassey (syndromes r)).lam).length ≠ (berlekampMassey (syndromes r)).len
  · exact .inl ⟨.rootMismatch, by decide, by simp [rsDecode, h0, h1, h2]⟩
  simp only [ne_eq, not_not] at h2
  cases h3 : correctErrors
        (errorEvaluator (syndromes r) (berlekampMassey (syndromes r)).lam (berlekampMassey (syndromes r)).len)
        (berlekampMassey (syndromes r)).lam (berlekampMassey (syndromes r)).len
        (chienSearch (berlekampMassey (syndromes r)).lam) r with
  | none => exact .inl ⟨.verify, by decide, by simp [rsDecode, h0, h1, h2, h3]⟩
  | some r' =>
    cases h4 : (syndromes r').all (· == 0#8)
    case false => exact .inl ⟨.verify, by decide, by simp [rsDecode, h0, h1, h2, h3, h4]⟩
    exact .inr ⟨r', rfl, by omega, h2, rfl, h4, by simp [rsDecode, h0, h1, h2, h3, h4, RsOutcome.ofWord]⟩

end Sys2Proof.Machine
end

