-- ==== Sys2Proof/Laws/State.lean ====
section
/-! SUPPORT. What each named update of State leaves and sets: one lemma per field, true by rfl. -/

namespace Sys2Proof.Machine

/-! ### State.setResult -/

@[simp] theorem State.setResult_rxEn (s : State) (v : Byte) : (s.setResult v).rxEn = s.rxEn := rfl
@[simp] theorem State.setResult_err (s : State) (v : Byte) : (s.setResult v).err = s.err := rfl
@[simp] theorem State.setResult_irqStatus (s : State) (v : Byte) : (s.setResult v).irqStatus = s.irqStatus := rfl
@[simp] theorem State.setResult_irqEnable (s : State) (v : Byte) : (s.setResult v).irqEnable = s.irqEnable := rfl
@[simp] theorem State.setResult_sampleRate (s : State) (v : Byte) : (s.setResult v).sampleRate = s.sampleRate := rfl
@[simp] theorem State.setResult_rxCfg (s : State) (v : Byte) : (s.setResult v).rxCfg = s.rxCfg := rfl
@[simp] theorem State.setResult_gfA (s : State) (v : Byte) : (s.setResult v).gfA = s.gfA := rfl
@[simp] theorem State.setResult_gfB (s : State) (v : Byte) : (s.setResult v).gfB = s.gfB := rfl
@[simp] theorem State.setResult_rsResult (s : State) (v : Byte) : (s.setResult v).rsResult = s.rsResult := rfl
@[simp] theorem State.setResult_rxResult (s : State) (v : Byte) : (s.setResult v).rxResult = s.rxResult := rfl
@[simp] theorem State.setResult_syncCnt (s : State) (v : Byte) : (s.setResult v).syncCnt = s.syncCnt := rfl
@[simp] theorem State.setResult_truncCnt (s : State) (v : Byte) : (s.setResult v).truncCnt = s.truncCnt := rfl
@[simp] theorem State.setResult_delivCnt (s : State) (v : Byte) : (s.setResult v).delivCnt = s.delivCnt := rfl
@[simp] theorem State.setResult_failCnt (s : State) (v : Byte) : (s.setResult v).failCnt = s.failCnt := rfl
@[simp] theorem State.setResult_overrunCnt (s : State) (v : Byte) : (s.setResult v).overrunCnt = s.overrunCnt := rfl
@[simp] theorem State.setResult_tx (s : State) (v : Byte) : (s.setResult v).tx = s.tx := rfl
@[simp] theorem State.setResult_rx (s : State) (v : Byte) : (s.setResult v).rx = s.rx := rfl
@[simp] theorem State.setResult_mem (s : State) (v : Byte) : (s.setResult v).mem = s.mem := rfl
@[simp] theorem State.setResult_schedule (s : State) (v : Byte) : (s.setResult v).schedule = s.schedule := rfl
@[simp] theorem State.setResult_reads (s : State) (v : Byte) : (s.setResult v).reads = s.reads := rfl
@[simp] theorem State.setResult_gfR (s : State) (v : Byte) : (s.setResult v).gfR = v := rfl

/-! ### State.signal -/

@[simp] theorem State.signal_rxEn (s : State) (e : Event) : (s.signal e).rxEn = s.rxEn := rfl
@[simp] theorem State.signal_err (s : State) (e : Event) : (s.signal e).err = s.err := rfl
@[simp] theorem State.signal_irqEnable (s : State) (e : Event) : (s.signal e).irqEnable = s.irqEnable := rfl
@[simp] theorem State.signal_sampleRate (s : State) (e : Event) : (s.signal e).sampleRate = s.sampleRate := rfl
@[simp] theorem State.signal_rxCfg (s : State) (e : Event) : (s.signal e).rxCfg = s.rxCfg := rfl
@[simp] theorem State.signal_gfA (s : State) (e : Event) : (s.signal e).gfA = s.gfA := rfl
@[simp] theorem State.signal_gfB (s : State) (e : Event) : (s.signal e).gfB = s.gfB := rfl
@[simp] theorem State.signal_gfR (s : State) (e : Event) : (s.signal e).gfR = s.gfR := rfl
@[simp] theorem State.signal_rsResult (s : State) (e : Event) : (s.signal e).rsResult = s.rsResult := rfl
@[simp] theorem State.signal_rxResult (s : State) (e : Event) : (s.signal e).rxResult = s.rxResult := rfl
@[simp] theorem State.signal_syncCnt (s : State) (e : Event) : (s.signal e).syncCnt = s.syncCnt := rfl
@[simp] theorem State.signal_truncCnt (s : State) (e : Event) : (s.signal e).truncCnt = s.truncCnt := rfl
@[simp] theorem State.signal_delivCnt (s : State) (e : Event) : (s.signal e).delivCnt = s.delivCnt := rfl
@[simp] theorem State.signal_failCnt (s : State) (e : Event) : (s.signal e).failCnt = s.failCnt := rfl
@[simp] theorem State.signal_overrunCnt (s : State) (e : Event) : (s.signal e).overrunCnt = s.overrunCnt := rfl
@[simp] theorem State.signal_tx (s : State) (e : Event) : (s.signal e).tx = s.tx := rfl
@[simp] theorem State.signal_rx (s : State) (e : Event) : (s.signal e).rx = s.rx := rfl
@[simp] theorem State.signal_mem (s : State) (e : Event) : (s.signal e).mem = s.mem := rfl
@[simp] theorem State.signal_schedule (s : State) (e : Event) : (s.signal e).schedule = s.schedule := rfl
@[simp] theorem State.signal_reads (s : State) (e : Event) : (s.signal e).reads = s.reads := rfl
@[simp] theorem State.signal_irqStatus (s : State) (e : Event) : (s.signal e).irqStatus = s.irqStatus ||| e.mask := rfl

/-! ### State.raiseError -/

@[simp] theorem State.raiseError_rxEn (s : State) (c : ErrCode) : (s.raiseError c).rxEn = s.rxEn := rfl
@[simp] theorem State.raiseError_irqEnable (s : State) (c : ErrCode) : (s.raiseError c).irqEnable = s.irqEnable := rfl
@[simp] theorem State.raiseError_sampleRate (s : State) (c : ErrCode) : (s.raiseError c).sampleRate = s.sampleRate := rfl
@[simp] theorem State.raiseError_rxCfg (s : State) (c : ErrCode) : (s.raiseError c).rxCfg = s.rxCfg := rfl
@[simp] theorem State.raiseError_gfA (s : State) (c : ErrCode) : (s.raiseError c).gfA = s.gfA := rfl
@[simp] theorem State.raiseError_gfB (s : State) (c : ErrCode) : (s.raiseError c).gfB = s.gfB := rfl
@[simp] theorem State.raiseError_gfR (s : State) (c : ErrCode) : (s.raiseError c).gfR = s.gfR := rfl
@[simp] theorem State.raiseError_rsResult (s : State) (c : ErrCode) : (s.raiseError c).rsResult = s.rsResult := rfl
@[simp] theorem State.raiseError_rxResult (s : State) (c : ErrCode) : (s.raiseError c).rxResult = s.rxResult := rfl
@[simp] theorem State.raiseError_syncCnt (s : State) (c : ErrCode) : (s.raiseError c).syncCnt = s.syncCnt := rfl
@[simp] theorem State.raiseError_truncCnt (s : State) (c : ErrCode) : (s.raiseError c).truncCnt = s.truncCnt := rfl
@[simp] theorem State.raiseError_delivCnt (s : State) (c : ErrCode) : (s.raiseError c).delivCnt = s.delivCnt := rfl
@[simp] theorem State.raiseError_failCnt (s : State) (c : ErrCode) : (s.raiseError c).failCnt = s.failCnt := rfl
@[simp] theorem State.raiseError_overrunCnt (s : State) (c : ErrCode) : (s.raiseError c).overrunCnt = s.overrunCnt := rfl
@[simp] theorem State.raiseError_tx (s : State) (c : ErrCode) : (s.raiseError c).tx = s.tx := rfl
@[simp] theorem State.raiseError_rx (s : State) (c : ErrCode) : (s.raiseError c).rx = s.rx := rfl
@[simp] theorem State.raiseError_mem (s : State) (c : ErrCode) : (s.raiseError c).mem = s.mem := rfl
@[simp] theorem State.raiseError_schedule (s : State) (c : ErrCode) : (s.raiseError c).schedule = s.schedule := rfl
@[simp] theorem State.raiseError_reads (s : State) (c : ErrCode) : (s.raiseError c).reads = s.reads := rfl
@[simp] theorem State.raiseError_err (s : State) (c : ErrCode) : (s.raiseError c).err = s.err.record c := rfl
@[simp] theorem State.raiseError_irqStatus (s : State) (c : ErrCode) :
    (s.raiseError c).irqStatus = s.irqStatus ||| Event.err.mask := rfl

/-! ### State.setBuf -/

@[simp] theorem State.setBuf_rxEn (s : State) (b : Buf) (l : List Byte) : (s.setBuf b l).rxEn = s.rxEn := rfl
@[simp] theorem State.setBuf_err (s : State) (b : Buf) (l : List Byte) : (s.setBuf b l).err = s.err := rfl
@[simp] theorem State.setBuf_irqStatus (s : State) (b : Buf) (l : List Byte) : (s.setBuf b l).irqStatus = s.irqStatus := rfl
@[simp] theorem State.setBuf_irqEnable (s : State) (b : Buf) (l : List Byte) : (s.setBuf b l).irqEnable = s.irqEnable := rfl
@[simp] theorem State.setBuf_sampleRate (s : State) (b : Buf) (l : List Byte) : (s.setBuf b l).sampleRate = s.sampleRate := rfl
@[simp] theorem State.setBuf_rxCfg (s : State) (b : Buf) (l : List Byte) : (s.setBuf b l).rxCfg = s.rxCfg := rfl
@[simp] theorem State.setBuf_gfA (s : State) (b : Buf) (l : List Byte) : (s.setBuf b l).gfA = s.gfA := rfl
@[simp] theorem State.setBuf_gfB (s : State) (b : Buf) (l : List Byte) : (s.setBuf b l).gfB = s.gfB := rfl
@[simp] theorem State.setBuf_gfR (s : State) (b : Buf) (l : List Byte) : (s.setBuf b l).gfR = s.gfR := rfl
@[simp] theorem State.setBuf_rsResult (s : State) (b : Buf) (l : List Byte) : (s.setBuf b l).rsResult = s.rsResult := rfl
@[simp] theorem State.setBuf_rxResult (s : State) (b : Buf) (l : List Byte) : (s.setBuf b l).rxResult = s.rxResult := rfl
@[simp] theorem State.setBuf_syncCnt (s : State) (b : Buf) (l : List Byte) : (s.setBuf b l).syncCnt = s.syncCnt := rfl
@[simp] theorem State.setBuf_truncCnt (s : State) (b : Buf) (l : List Byte) : (s.setBuf b l).truncCnt = s.truncCnt := rfl
@[simp] theorem State.setBuf_delivCnt (s : State) (b : Buf) (l : List Byte) : (s.setBuf b l).delivCnt = s.delivCnt := rfl
@[simp] theorem State.setBuf_failCnt (s : State) (b : Buf) (l : List Byte) : (s.setBuf b l).failCnt = s.failCnt := rfl
@[simp] theorem State.setBuf_overrunCnt (s : State) (b : Buf) (l : List Byte) : (s.setBuf b l).overrunCnt = s.overrunCnt := rfl
@[simp] theorem State.setBuf_tx (s : State) (b : Buf) (l : List Byte) : (s.setBuf b l).tx = s.tx := rfl
@[simp] theorem State.setBuf_rx (s : State) (b : Buf) (l : List Byte) : (s.setBuf b l).rx = s.rx := rfl
@[simp] theorem State.setBuf_schedule (s : State) (b : Buf) (l : List Byte) : (s.setBuf b l).schedule = s.schedule := rfl
@[simp] theorem State.setBuf_reads (s : State) (b : Buf) (l : List Byte) : (s.setBuf b l).reads = s.reads := rfl
@[simp] theorem State.setBuf_mem (s : State) (b : Buf) (l : List Byte) : (s.setBuf b l).mem = s.mem.writeBytes b.base (l.take b.size) := rfl

/-! ### State.setBufWord -/

@[simp] theorem State.setBufWord_rxEn (s : State) (b : Buf) (w : Nat) (v : Word) : (s.setBufWord b w v).rxEn = s.rxEn := rfl
@[simp] theorem State.setBufWord_err (s : State) (b : Buf) (w : Nat) (v : Word) : (s.setBufWord b w v).err = s.err := rfl
@[simp] theorem State.setBufWord_irqStatus (s : State) (b : Buf) (w : Nat) (v : Word) : (s.setBufWord b w v).irqStatus = s.irqStatus := rfl
@[simp] theorem State.setBufWord_irqEnable (s : State) (b : Buf) (w : Nat) (v : Word) : (s.setBufWord b w v).irqEnable = s.irqEnable := rfl
@[simp] theorem State.setBufWord_sampleRate (s : State) (b : Buf) (w : Nat) (v : Word) : (s.setBufWord b w v).sampleRate = s.sampleRate := rfl
@[simp] theorem State.setBufWord_rxCfg (s : State) (b : Buf) (w : Nat) (v : Word) : (s.setBufWord b w v).rxCfg = s.rxCfg := rfl
@[simp] theorem State.setBufWord_gfA (s : State) (b : Buf) (w : Nat) (v : Word) : (s.setBufWord b w v).gfA = s.gfA := rfl
@[simp] theorem State.setBufWord_gfB (s : State) (b : Buf) (w : Nat) (v : Word) : (s.setBufWord b w v).gfB = s.gfB := rfl
@[simp] theorem State.setBufWord_gfR (s : State) (b : Buf) (w : Nat) (v : Word) : (s.setBufWord b w v).gfR = s.gfR := rfl
@[simp] theorem State.setBufWord_rsResult (s : State) (b : Buf) (w : Nat) (v : Word) : (s.setBufWord b w v).rsResult = s.rsResult := rfl
@[simp] theorem State.setBufWord_rxResult (s : State) (b : Buf) (w : Nat) (v : Word) : (s.setBufWord b w v).rxResult = s.rxResult := rfl
@[simp] theorem State.setBufWord_syncCnt (s : State) (b : Buf) (w : Nat) (v : Word) : (s.setBufWord b w v).syncCnt = s.syncCnt := rfl
@[simp] theorem State.setBufWord_truncCnt (s : State) (b : Buf) (w : Nat) (v : Word) : (s.setBufWord b w v).truncCnt = s.truncCnt := rfl
@[simp] theorem State.setBufWord_delivCnt (s : State) (b : Buf) (w : Nat) (v : Word) : (s.setBufWord b w v).delivCnt = s.delivCnt := rfl
@[simp] theorem State.setBufWord_failCnt (s : State) (b : Buf) (w : Nat) (v : Word) : (s.setBufWord b w v).failCnt = s.failCnt := rfl
@[simp] theorem State.setBufWord_overrunCnt (s : State) (b : Buf) (w : Nat) (v : Word) : (s.setBufWord b w v).overrunCnt = s.overrunCnt := rfl
@[simp] theorem State.setBufWord_tx (s : State) (b : Buf) (w : Nat) (v : Word) : (s.setBufWord b w v).tx = s.tx := rfl
@[simp] theorem State.setBufWord_rx (s : State) (b : Buf) (w : Nat) (v : Word) : (s.setBufWord b w v).rx = s.rx := rfl
@[simp] theorem State.setBufWord_schedule (s : State) (b : Buf) (w : Nat) (v : Word) : (s.setBufWord b w v).schedule = s.schedule := rfl
@[simp] theorem State.setBufWord_reads (s : State) (b : Buf) (w : Nat) (v : Word) : (s.setBufWord b w v).reads = s.reads := rfl

/-! ### State.openSession -/

@[simp] theorem State.openSession_rxEn (s : State) : (s.openSession).rxEn = s.rxEn := rfl
@[simp] theorem State.openSession_err (s : State) : (s.openSession).err = s.err := rfl
@[simp] theorem State.openSession_irqStatus (s : State) : (s.openSession).irqStatus = s.irqStatus := rfl
@[simp] theorem State.openSession_irqEnable (s : State) : (s.openSession).irqEnable = s.irqEnable := rfl
@[simp] theorem State.openSession_sampleRate (s : State) : (s.openSession).sampleRate = s.sampleRate := rfl
@[simp] theorem State.openSession_rxCfg (s : State) : (s.openSession).rxCfg = s.rxCfg := rfl
@[simp] theorem State.openSession_gfA (s : State) : (s.openSession).gfA = s.gfA := rfl
@[simp] theorem State.openSession_gfB (s : State) : (s.openSession).gfB = s.gfB := rfl
@[simp] theorem State.openSession_gfR (s : State) : (s.openSession).gfR = s.gfR := rfl
@[simp] theorem State.openSession_rsResult (s : State) : (s.openSession).rsResult = s.rsResult := rfl
@[simp] theorem State.openSession_rxResult (s : State) : (s.openSession).rxResult = s.rxResult := rfl
@[simp] theorem State.openSession_syncCnt (s : State) : (s.openSession).syncCnt = s.syncCnt := rfl
@[simp] theorem State.openSession_truncCnt (s : State) : (s.openSession).truncCnt = s.truncCnt := rfl
@[simp] theorem State.openSession_delivCnt (s : State) : (s.openSession).delivCnt = s.delivCnt := rfl
@[simp] theorem State.openSession_failCnt (s : State) : (s.openSession).failCnt = s.failCnt := rfl
@[simp] theorem State.openSession_overrunCnt (s : State) : (s.openSession).overrunCnt = s.overrunCnt := rfl
@[simp] theorem State.openSession_tx (s : State) : (s.openSession).tx = s.tx := rfl
@[simp] theorem State.openSession_mem (s : State) : (s.openSession).mem = s.mem := rfl
@[simp] theorem State.openSession_schedule (s : State) : (s.openSession).schedule = s.schedule := rfl
@[simp] theorem State.openSession_reads (s : State) : (s.openSession).reads = s.reads := rfl
@[simp] theorem State.openSession_rx (s : State) : (s.openSession).rx = RxEngine.opened s.fs := rfl

/-! ### State.closeSession -/

@[simp] theorem State.closeSession_rxEn (s : State) : (s.closeSession).rxEn = s.rxEn := rfl
@[simp] theorem State.closeSession_err (s : State) : (s.closeSession).err = s.err := rfl
@[simp] theorem State.closeSession_irqStatus (s : State) : (s.closeSession).irqStatus = s.irqStatus := rfl
@[simp] theorem State.closeSession_irqEnable (s : State) : (s.closeSession).irqEnable = s.irqEnable := rfl
@[simp] theorem State.closeSession_sampleRate (s : State) : (s.closeSession).sampleRate = s.sampleRate := rfl
@[simp] theorem State.closeSession_rxCfg (s : State) : (s.closeSession).rxCfg = s.rxCfg := rfl
@[simp] theorem State.closeSession_gfA (s : State) : (s.closeSession).gfA = s.gfA := rfl
@[simp] theorem State.closeSession_gfB (s : State) : (s.closeSession).gfB = s.gfB := rfl
@[simp] theorem State.closeSession_gfR (s : State) : (s.closeSession).gfR = s.gfR := rfl
@[simp] theorem State.closeSession_rsResult (s : State) : (s.closeSession).rsResult = s.rsResult := rfl
@[simp] theorem State.closeSession_rxResult (s : State) : (s.closeSession).rxResult = s.rxResult := rfl
@[simp] theorem State.closeSession_syncCnt (s : State) : (s.closeSession).syncCnt = s.syncCnt := rfl
@[simp] theorem State.closeSession_truncCnt (s : State) : (s.closeSession).truncCnt = s.truncCnt := rfl
@[simp] theorem State.closeSession_delivCnt (s : State) : (s.closeSession).delivCnt = s.delivCnt := rfl
@[simp] theorem State.closeSession_failCnt (s : State) : (s.closeSession).failCnt = s.failCnt := rfl
@[simp] theorem State.closeSession_overrunCnt (s : State) : (s.closeSession).overrunCnt = s.overrunCnt := rfl
@[simp] theorem State.closeSession_tx (s : State) : (s.closeSession).tx = s.tx := rfl
@[simp] theorem State.closeSession_mem (s : State) : (s.closeSession).mem = s.mem := rfl
@[simp] theorem State.closeSession_schedule (s : State) : (s.closeSession).schedule = s.schedule := rfl
@[simp] theorem State.closeSession_reads (s : State) : (s.closeSession).reads = s.reads := rfl

/-! ### State.returnToSearch -/

@[simp] theorem State.returnToSearch_rxEn (s : State) : (s.returnToSearch).rxEn = s.rxEn := rfl
@[simp] theorem State.returnToSearch_err (s : State) : (s.returnToSearch).err = s.err := rfl
@[simp] theorem State.returnToSearch_irqStatus (s : State) : (s.returnToSearch).irqStatus = s.irqStatus := rfl
@[simp] theorem State.returnToSearch_irqEnable (s : State) : (s.returnToSearch).irqEnable = s.irqEnable := rfl
@[simp] theorem State.returnToSearch_sampleRate (s : State) : (s.returnToSearch).sampleRate = s.sampleRate := rfl
@[simp] theorem State.returnToSearch_rxCfg (s : State) : (s.returnToSearch).rxCfg = s.rxCfg := rfl
@[simp] theorem State.returnToSearch_gfA (s : State) : (s.returnToSearch).gfA = s.gfA := rfl
@[simp] theorem State.returnToSearch_gfB (s : State) : (s.returnToSearch).gfB = s.gfB := rfl
@[simp] theorem State.returnToSearch_gfR (s : State) : (s.returnToSearch).gfR = s.gfR := rfl
@[simp] theorem State.returnToSearch_rsResult (s : State) : (s.returnToSearch).rsResult = s.rsResult := rfl
@[simp] theorem State.returnToSearch_rxResult (s : State) : (s.returnToSearch).rxResult = s.rxResult := rfl
@[simp] theorem State.returnToSearch_syncCnt (s : State) : (s.returnToSearch).syncCnt = s.syncCnt := rfl
@[simp] theorem State.returnToSearch_truncCnt (s : State) : (s.returnToSearch).truncCnt = s.truncCnt := rfl
@[simp] theorem State.returnToSearch_delivCnt (s : State) : (s.returnToSearch).delivCnt = s.delivCnt := rfl
@[simp] theorem State.returnToSearch_failCnt (s : State) : (s.returnToSearch).failCnt = s.failCnt := rfl
@[simp] theorem State.returnToSearch_overrunCnt (s : State) : (s.returnToSearch).overrunCnt = s.overrunCnt := rfl
@[simp] theorem State.returnToSearch_tx (s : State) : (s.returnToSearch).tx = s.tx := rfl
@[simp] theorem State.returnToSearch_mem (s : State) : (s.returnToSearch).mem = s.mem := rfl
@[simp] theorem State.returnToSearch_schedule (s : State) : (s.returnToSearch).schedule = s.schedule := rfl
@[simp] theorem State.returnToSearch_reads (s : State) : (s.returnToSearch).reads = s.reads := rfl

/-! ### State.startTx -/

@[simp] theorem State.startTx_rxEn (s : State) (t : List Byte) : (s.startTx t).rxEn = s.rxEn := rfl
@[simp] theorem State.startTx_err (s : State) (t : List Byte) : (s.startTx t).err = s.err := rfl
@[simp] theorem State.startTx_irqStatus (s : State) (t : List Byte) : (s.startTx t).irqStatus = s.irqStatus := rfl
@[simp] theorem State.startTx_irqEnable (s : State) (t : List Byte) : (s.startTx t).irqEnable = s.irqEnable := rfl
@[simp] theorem State.startTx_sampleRate (s : State) (t : List Byte) : (s.startTx t).sampleRate = s.sampleRate := rfl
@[simp] theorem State.startTx_rxCfg (s : State) (t : List Byte) : (s.startTx t).rxCfg = s.rxCfg := rfl
@[simp] theorem State.startTx_gfA (s : State) (t : List Byte) : (s.startTx t).gfA = s.gfA := rfl
@[simp] theorem State.startTx_gfB (s : State) (t : List Byte) : (s.startTx t).gfB = s.gfB := rfl
@[simp] theorem State.startTx_gfR (s : State) (t : List Byte) : (s.startTx t).gfR = s.gfR := rfl
@[simp] theorem State.startTx_rsResult (s : State) (t : List Byte) : (s.startTx t).rsResult = s.rsResult := rfl
@[simp] theorem State.startTx_rxResult (s : State) (t : List Byte) : (s.startTx t).rxResult = s.rxResult := rfl
@[simp] theorem State.startTx_syncCnt (s : State) (t : List Byte) : (s.startTx t).syncCnt = s.syncCnt := rfl
@[simp] theorem State.startTx_truncCnt (s : State) (t : List Byte) : (s.startTx t).truncCnt = s.truncCnt := rfl
@[simp] theorem State.startTx_delivCnt (s : State) (t : List Byte) : (s.startTx t).delivCnt = s.delivCnt := rfl
@[simp] theorem State.startTx_failCnt (s : State) (t : List Byte) : (s.startTx t).failCnt = s.failCnt := rfl
@[simp] theorem State.startTx_overrunCnt (s : State) (t : List Byte) : (s.startTx t).overrunCnt = s.overrunCnt := rfl
@[simp] theorem State.startTx_rx (s : State) (t : List Byte) : (s.startTx t).rx = s.rx := rfl
@[simp] theorem State.startTx_schedule (s : State) (t : List Byte) : (s.startTx t).schedule = s.schedule := rfl
@[simp] theorem State.startTx_reads (s : State) (t : List Byte) : (s.startTx t).reads = s.reads := rfl

/-! ### State.txAdvance -/

@[simp] theorem State.txAdvance_rxEn (s : State) : (s.txAdvance).rxEn = s.rxEn := rfl
@[simp] theorem State.txAdvance_err (s : State) : (s.txAdvance).err = s.err := rfl
@[simp] theorem State.txAdvance_irqStatus (s : State) : (s.txAdvance).irqStatus = s.irqStatus := rfl
@[simp] theorem State.txAdvance_irqEnable (s : State) : (s.txAdvance).irqEnable = s.irqEnable := rfl
@[simp] theorem State.txAdvance_sampleRate (s : State) : (s.txAdvance).sampleRate = s.sampleRate := rfl
@[simp] theorem State.txAdvance_rxCfg (s : State) : (s.txAdvance).rxCfg = s.rxCfg := rfl
@[simp] theorem State.txAdvance_gfA (s : State) : (s.txAdvance).gfA = s.gfA := rfl
@[simp] theorem State.txAdvance_gfB (s : State) : (s.txAdvance).gfB = s.gfB := rfl
@[simp] theorem State.txAdvance_gfR (s : State) : (s.txAdvance).gfR = s.gfR := rfl
@[simp] theorem State.txAdvance_rsResult (s : State) : (s.txAdvance).rsResult = s.rsResult := rfl
@[simp] theorem State.txAdvance_rxResult (s : State) : (s.txAdvance).rxResult = s.rxResult := rfl
@[simp] theorem State.txAdvance_syncCnt (s : State) : (s.txAdvance).syncCnt = s.syncCnt := rfl
@[simp] theorem State.txAdvance_truncCnt (s : State) : (s.txAdvance).truncCnt = s.truncCnt := rfl
@[simp] theorem State.txAdvance_delivCnt (s : State) : (s.txAdvance).delivCnt = s.delivCnt := rfl
@[simp] theorem State.txAdvance_failCnt (s : State) : (s.txAdvance).failCnt = s.failCnt := rfl
@[simp] theorem State.txAdvance_overrunCnt (s : State) : (s.txAdvance).overrunCnt = s.overrunCnt := rfl
@[simp] theorem State.txAdvance_rx (s : State) : (s.txAdvance).rx = s.rx := rfl
@[simp] theorem State.txAdvance_mem (s : State) : (s.txAdvance).mem = s.mem := rfl
@[simp] theorem State.txAdvance_schedule (s : State) : (s.txAdvance).schedule = s.schedule := rfl
@[simp] theorem State.txAdvance_reads (s : State) : (s.txAdvance).reads = s.reads := rfl

/-! ### State.dequeue -/

@[simp] theorem State.dequeue_rxEn (s : State) : (s.dequeue).rxEn = s.rxEn := rfl
@[simp] theorem State.dequeue_err (s : State) : (s.dequeue).err = s.err := rfl
@[simp] theorem State.dequeue_irqStatus (s : State) : (s.dequeue).irqStatus = s.irqStatus := rfl
@[simp] theorem State.dequeue_irqEnable (s : State) : (s.dequeue).irqEnable = s.irqEnable := rfl
@[simp] theorem State.dequeue_sampleRate (s : State) : (s.dequeue).sampleRate = s.sampleRate := rfl
@[simp] theorem State.dequeue_rxCfg (s : State) : (s.dequeue).rxCfg = s.rxCfg := rfl
@[simp] theorem State.dequeue_gfA (s : State) : (s.dequeue).gfA = s.gfA := rfl
@[simp] theorem State.dequeue_gfB (s : State) : (s.dequeue).gfB = s.gfB := rfl
@[simp] theorem State.dequeue_gfR (s : State) : (s.dequeue).gfR = s.gfR := rfl
@[simp] theorem State.dequeue_rsResult (s : State) : (s.dequeue).rsResult = s.rsResult := rfl
@[simp] theorem State.dequeue_rxResult (s : State) : (s.dequeue).rxResult = s.rxResult := rfl
@[simp] theorem State.dequeue_syncCnt (s : State) : (s.dequeue).syncCnt = s.syncCnt := rfl
@[simp] theorem State.dequeue_truncCnt (s : State) : (s.dequeue).truncCnt = s.truncCnt := rfl
@[simp] theorem State.dequeue_delivCnt (s : State) : (s.dequeue).delivCnt = s.delivCnt := rfl
@[simp] theorem State.dequeue_failCnt (s : State) : (s.dequeue).failCnt = s.failCnt := rfl
@[simp] theorem State.dequeue_overrunCnt (s : State) : (s.dequeue).overrunCnt = s.overrunCnt := rfl
@[simp] theorem State.dequeue_tx (s : State) : (s.dequeue).tx = s.tx := rfl
@[simp] theorem State.dequeue_rx (s : State) : (s.dequeue).rx = s.rx := rfl
@[simp] theorem State.dequeue_mem (s : State) : (s.dequeue).mem = s.mem := rfl
@[simp] theorem State.dequeue_reads (s : State) : (s.dequeue).reads = s.reads := rfl
@[simp] theorem State.dequeue_schedule (s : State) : (s.dequeue).schedule = s.schedule.tail := rfl

/-! ### The reset of the block -/

@[simp] theorem State.resetBlock_schedule (s : State) : s.resetBlock.schedule = s.schedule := rfl
@[simp] theorem State.resetBlock_reads (s : State) : s.resetBlock.reads = s.reads := rfl
@[simp] theorem State.resetBlock_mem (s : State) : s.resetBlock.mem = [] := rfl
@[simp] theorem State.resetBlock_tx (s : State) : s.resetBlock.tx = TxEngine.reset := rfl
@[simp] theorem State.resetBlock_rx (s : State) : s.resetBlock.rx = RxEngine.reset := rfl

/-! ### A read of a buffer sees only the memory -/

/-- States with equal memories have equal buffer bytes. -/
theorem State.bufByte_congr {s t : State} (h : s.mem = t.mem) (b : Buf) (i : Nat) : s.bufByte b i = t.bufByte b i := by
  unfold State.bufByte; rw [h]

/-- States with equal memories have equal buffers. -/
theorem State.bufBytes_congr {s t : State} (h : s.mem = t.mem) (b : Buf) : s.bufBytes b = t.bufBytes b := by
  unfold State.bufBytes; rw [show s.bufByte b = t.bufByte b from funext (State.bufByte_congr h b)]

@[simp] theorem State.bufBytes_length (s : State) (b : Buf) : (s.bufBytes b).length = b.size := by
  simp [State.bufBytes]

end Sys2Proof.Machine
end

