-- ==== Sys2Proof/Laws/Memory.lean ====
section
/-! SUPPORT. The laws of memory: a read after a write, the canonical form kept by every operation, and what writing a
buffer or a word of one does to every byte. -/

namespace Sys2Proof.Machine

theorem Memory.wf_cons {a : Nat} {v : Byte} {r : Memory} :
    Memory.wf ((a, v) :: r) = true ↔ v ≠ Memory.unlisted ∧ (∀ c ∈ r, a < c.1) ∧ Memory.wf r = true := by
  simp [Memory.wf, and_assoc]

/-- Below every listed address a byte reads as unlisted. -/
theorem Memory.read_below {m : Memory} {a : Nat} (h : ∀ c ∈ m, a < c.1) : m.read a = Memory.unlisted := by
  induction m with
  | nil => rfl
  | cons c r ih =>
    obtain ⟨b, v⟩ := c
    have hb : a < b := h (b, v) (by simp)
    simp only [Memory.read, if_neg (by omega : ¬ b = a)]
    exact ih (fun c hc => h c (List.mem_cons_of_mem _ hc))

/-- A write leaves every other byte alone, whatever the list. -/
theorem Memory.read_write_other {m : Memory} {a i : Nat} {v : Byte} (h : i ≠ a) : (m.write a v).read i = m.read i := by
  induction m with
  | nil =>
    simp only [Memory.write]
    split <;> simp [Memory.read, Ne.symm h]
  | cons c r ih =>
    obtain ⟨b, w⟩ := c
    simp only [Memory.write]
    split
    · split <;> simp [Memory.read, Ne.symm h]
    · split
      · rename_i hab
        subst hab
        split <;> simp [Memory.read, Ne.symm h]
      · simp only [Memory.read]
        split <;> simp [ih]

/-- A read after a write to the same address gives the value written. -/
theorem Memory.read_write_same {m : Memory} {a : Nat} {v : Byte} (h : m.wf = true) : (m.write a v).read a = v := by
  induction m with
  | nil =>
    simp only [Memory.write]
    split <;> simp_all [Memory.read]
  | cons c r ih =>
    obtain ⟨b, w⟩ := c
    obtain ⟨-, hlt, hr⟩ := Memory.wf_cons.1 h
    simp only [Memory.write]
    split
    · rename_i hab
      split
      · rename_i hv
        rw [hv]
        refine Memory.read_below fun c hc => ?_
        rcases List.mem_cons.1 hc with rfl | hc
        · exact hab
        · exact Nat.lt_trans hab (hlt c hc)
      · simp [Memory.read]
    · split
      · rename_i hab
        subst hab
        split
        · rename_i hv
          rw [hv]
          exact Memory.read_below hlt
        · simp [Memory.read]
      · rename_i h1 h2
        simp only [Memory.read, if_neg (by omega : ¬ b = a)]
        exact ih hr

/-- Addresses listed after a write were listed before or are the one written. -/
theorem Memory.mem_write {m : Memory} {a : Nat} {v : Byte} {c : Host.Cell} (h : c ∈ m.write a v) : c ∈ m ∨ c = (a, v) := by
  induction m with
  | nil =>
    simp only [Memory.write] at h
    split at h <;> simp_all
  | cons d r ih =>
    obtain ⟨b, w⟩ := d
    simp only [Memory.write] at h
    split at h
    · split at h
      · exact .inl h
      · rcases List.mem_cons.1 h with rfl | h
        · exact .inr rfl
        · exact .inl h
    · split at h
      · split at h
        · exact .inl (List.mem_cons_of_mem _ h)
        · rcases List.mem_cons.1 h with rfl | h
          · exact .inr rfl
          · exact .inl (List.mem_cons_of_mem _ h)
      · rcases List.mem_cons.1 h with rfl | h
        · exact .inl (by simp)
        · rcases ih h with h | h
          · exact .inl (List.mem_cons_of_mem _ h)
          · exact .inr h

/-- A write keeps the canonical form. -/
theorem Memory.write_wf {m : Memory} {a : Nat} {v : Byte} (h : m.wf = true) : (m.write a v).wf = true := by
  induction m with
  | nil =>
    simp only [Memory.write]
    split <;> simp_all [Memory.wf]
  | cons c r ih =>
    obtain ⟨b, w⟩ := c
    obtain ⟨hw, hlt, hr⟩ := Memory.wf_cons.1 h
    simp only [Memory.write]
    split
    · rename_i hab
      split
      · exact h
      · rename_i hv
        refine Memory.wf_cons.2 ⟨hv, fun c hc => ?_, h⟩
        rcases List.mem_cons.1 hc with rfl | hc
        · exact hab
        · exact Nat.lt_trans hab (hlt c hc)
    · split
      · rename_i hab
        subst hab
        split
        · exact hr
        · rename_i hv
          exact Memory.wf_cons.2 ⟨hv, hlt, hr⟩
      · rename_i h1 h2
        refine Memory.wf_cons.2 ⟨hw, fun c hc => ?_, ih hr⟩
        rcases Memory.mem_write hc with hc | rfl
        · exact hlt c hc
        · change b < a
          omega

/-- Writing a run of bytes keeps the canonical form. -/
theorem Memory.writeBytes_wf {bytes : List Byte} {m : Memory} {a : Nat} (h : m.wf = true) :
    (m.writeBytes a bytes).wf = true := by
  induction bytes generalizing m a with
  | nil => exact h
  | cons v r ih => exact ih (Memory.write_wf h)

/-- Writing a run of bytes leaves every byte outside the run alone, whatever the list. -/
theorem Memory.read_writeBytes_other {bytes : List Byte} {m : Memory} {a i : Nat} (h : i < a ∨ a + bytes.length ≤ i) :
    (m.writeBytes a bytes).read i = m.read i := by
  induction bytes generalizing m a with
  | nil => rfl
  | cons v r ih =>
    simp only [List.length_cons] at h
    simp only [Memory.writeBytes]
    rw [ih (by omega), Memory.read_write_other (by omega)]

/-- Writing a run of bytes: inside the run a byte reads as written. -/
theorem Memory.read_writeBytes_same {bytes : List Byte} {m : Memory} {a j : Nat} (h : m.wf = true)
    (hj : j < bytes.length) : (m.writeBytes a bytes).read (a + j) = bytes.getD j 0#8 := by
  induction bytes generalizing m a j with
  | nil => simp at hj
  | cons v r ih =>
    cases j with
    | zero =>
      simp only [Memory.writeBytes, Nat.add_zero]
      rw [Memory.read_writeBytes_other (by omega), Memory.read_write_same h]
      rfl
    | succ k =>
      simp only [Memory.writeBytes]
      rw [show a + (k + 1) = (a + 1) + k by omega, ih (Memory.write_wf h) (by simpa using hj)]
      simp

/-- Addresses listed after a run is written were listed before or lie in the run. -/
theorem Memory.mem_writeBytes {bytes : List Byte} {m : Memory} {a : Nat} {c : Host.Cell} (h : c ∈ m.writeBytes a bytes) :
    c ∈ m ∨ (a ≤ c.1 ∧ c.1 < a + bytes.length) := by
  induction bytes generalizing m a with
  | nil => exact .inl h
  | cons v r ih =>
    simp only [List.length_cons]
    rcases ih h with h | ⟨h1, h2⟩
    · rcases Memory.mem_write h with h | rfl
      · exact .inl h
      · refine .inr ⟨Nat.le_refl _, ?_⟩
        change a < a + (r.length + 1)
        omega
    · exact .inr ⟨by omega, by omega⟩

/-! ### The buffers -/

/-- The buffers lie apart: none ends after the base of a later one. -/
theorem Buf.disjoint {b c : Buf} (h : b ≠ c) : b.base + b.size ≤ c.base ∨ c.base + c.size ≤ b.base := by
  cases b <;> cases c <;> first | exact absurd rfl h | (simp [Buf.base, Buf.size])

/-- A buffer that is written reads as written. -/
theorem State.bufByte_setBuf_same {s : State} {b : Buf} {l : List Byte} {i : Nat} (h : s.mem.wf = true)
    (hi : i < b.size) (hl : i < l.length) : (s.setBuf b l).bufByte b i = l.getD i 0#8 := by
  have hlen : i < (l.take b.size).length := by simp; omega
  simp only [State.bufByte, if_pos hi, State.setBuf_mem]
  rw [Memory.read_writeBytes_same h hlen]
  simp [List.getD_eq_getElem?_getD, hi]

/-- Writing a buffer leaves the bytes of every other buffer alone. -/
theorem State.bufByte_setBuf_other {s : State} {b c : Buf} {l : List Byte} {i : Nat} (h : c ≠ b) :
    (s.setBuf b l).bufByte c i = s.bufByte c i := by
  simp only [State.bufByte, State.setBuf_mem]
  split
  · rename_i hi
    refine Memory.read_writeBytes_other ?_
    have hl : (l.take b.size).length ≤ b.size := by simp
    rcases Buf.disjoint h with h | h <;> omega
  · rfl

/-- Writing a buffer keeps the canonical form. -/
theorem State.setBuf_wf {s : State} {b : Buf} {l : List Byte} (h : s.mem.wf = true) : (s.setBuf b l).mem.wf = true :=
  Memory.writeBytes_wf h

/-- Writing a buffer changes no byte outside it, whatever the list. -/
theorem State.read_setBuf_outside {s : State} {b : Buf} {l : List Byte} {a : Nat}
    (h : a < b.base ∨ b.base + b.size ≤ a) : (s.setBuf b l).mem.read a = s.mem.read a := by
  refine Memory.read_writeBytes_other ?_
  have hl : (l.take b.size).length ≤ b.size := by simp
  omega

/-- Writing a word of a buffer keeps the canonical form. -/
theorem State.setBufWord_wf {s : State} {b : Buf} {w : Nat} {v : Word} (h : s.mem.wf = true) :
    (s.setBufWord b w v).mem.wf = true :=
  Memory.writeBytes_wf h

end Sys2Proof.Machine
end

