-- ==== Sys2Proof/Laws/Ops.lean ====
section
/-! SUPPORT. What each shared operation can do, said once: errors, events, the AOUT pop, the AIN push, the engines'
turns, one turn of the schedule. -/

namespace Sys2Proof.Machine

/-- An error with no code recorded yet is the first; MULTI stays. -/
theorem ErrReg.record_first {r : ErrReg} (c : ErrCode) (h : r.code = .none) : r.record c = { r with code := c } := by
  simp [ErrReg.record, h]

/-- A later error only sets MULTI. -/
theorem ErrReg.record_later {r : ErrReg} (c : ErrCode) (h : r.code ≠ .none) : r.record c = { r with multi := true } := by
  simp [ErrReg.record, h]

/-- An event sets its own bit and leaves the six others. -/
theorem State.signal_bit (s : State) (e f : Event) :
    (s.signal e).irqStatus.getLsbD f.bit = (s.irqStatus.getLsbD f.bit || decide (e = f)) := by
  simp only [State.signal_irqStatus, BitVec.getLsbD_or]
  congr 1
  cases e <;> cases f <;> rfl

/-- What the AOUT pop does: an empty FIFO signals an underrun while a transmission is active and gives 0; otherwise the
oldest sample leaves, and completion is tested. -/
theorem State.popAout_cases (s : State) :
    (s.tx.aout = [] ∧ s.tx.active = true ∧ s.popAout = (0#32, s.signal .txUnderrun)) ∨
    (s.tx.aout = [] ∧ s.tx.active = false ∧ s.popAout = (0#32, s)) ∨
    (∃ x rest, s.tx.aout = x :: rest ∧
      s.popAout = (1#1 ++ 0#15 ++ x, State.txComplete { s with tx := { s.tx with aout := rest } })) := by
  unfold State.popAout
  cases h : s.tx.aout with
  | nil => cases h' : s.tx.active <;> simp
  | cons x rest => exact .inr (.inr ⟨x, rest, rfl, rfl⟩)

/-- What the AIN push does. -/
theorem State.pushAin_cases (s : State) (v : Word) :
    (s.rxEn = false ∧ s.pushAin v = s.raiseError .rxDisabled) ∨
    (s.rxEn = true ∧ s.rx.ain.length = Config.fifoDepth ∧
      s.pushAin v = State.signal { s with overrunCnt := sat16Succ s.overrunCnt } .rxOverrun) ∨
    (s.rxEn = true ∧ s.rx.ain.length ≠ Config.fifoDepth ∧
      s.pushAin v = { s with rx := { s.rx with ain := s.rx.ain ++ [v.extractLsb' 0 16] } }) := by
  unfold State.pushAin
  cases h : s.rxEn
  · exact .inl ⟨rfl, rfl⟩
  · by_cases h' : s.rx.ain.length = Config.fifoDepth
    · exact .inr (.inl ⟨rfl, h', by simp [h']⟩)
    · exact .inr (.inr ⟨rfl, h', by simp [h']⟩)

/-- The TX engine's turn is its step where it may take one, and nothing otherwise. -/
theorem State.txTurn_cases (s : State) :
    (s.tx.active = true ∧ s.tx.k < Config.frameBits ∧ s.tx.aout.length < Config.fifoDepth ∧ s.txTurn = s.txAdvance) ∨
    (s.txReady = false ∧ s.txTurn = s) := by
  unfold State.txTurn
  cases h : s.txReady
  · exact .inr ⟨rfl, rfl⟩
  · simp only [State.txReady, Bool.and_eq_true, decide_eq_true_eq] at h
    exact .inl ⟨h.1.1, h.1.2, h.2, rfl⟩

/-- The TX engine's turn touches nothing but the TX engine. -/
theorem State.txTurn_eq (s : State) : s.txTurn = { s with tx := s.txTurn.tx } := by
  unfold State.txTurn
  split <;> rfl

/-- The RX engine's turn consumes the oldest sample where a session is open and there is one, and does nothing
otherwise. -/
theorem State.rxTurn_cases (s : State) :
    (∃ x rest, s.rxEn = true ∧ s.rx.ain = x :: rest ∧
      s.rxTurn = State.rxConsume { s with rx := { s.rx with ain := rest } } x.toInt) ∨
    (s.rxReady = false ∧ s.rxTurn = s) := by
  unfold State.rxTurn State.rxReady
  cases h : s.rxEn
  · exact .inr ⟨rfl, rfl⟩
  · cases h' : s.rx.ain with
    | nil => exact .inr ⟨rfl, rfl⟩
    | cons x rest => exact .inl ⟨x, rest, rfl, rfl, rfl⟩

/-- What a receive step keeps: everything of the Host's side and of the TX engine. -/
structure State.KeepsHostSide (s t : State) : Prop where
  rxEn : t.rxEn = s.rxEn
  err : t.err = s.err
  irqEnable : t.irqEnable = s.irqEnable
  sampleRate : t.sampleRate = s.sampleRate
  rxCfg : t.rxCfg = s.rxCfg
  gfA : t.gfA = s.gfA
  gfB : t.gfB = s.gfB
  gfR : t.gfR = s.gfR
  rsResult : t.rsResult = s.rsResult
  overrunCnt : t.overrunCnt = s.overrunCnt
  tx : t.tx = s.tx
  schedule : t.schedule = s.schedule
  reads : t.reads = s.reads

theorem State.KeepsHostSide.same (s : State) : s.KeepsHostSide s := by constructor <;> rfl

theorem State.KeepsHostSide.trans {s t u : State} (h : s.KeepsHostSide t) (h' : t.KeepsHostSide u) :
    s.KeepsHostSide u := by
  constructor
  · exact h'.rxEn.trans h.rxEn
  · exact h'.err.trans h.err
  · exact h'.irqEnable.trans h.irqEnable
  · exact h'.sampleRate.trans h.sampleRate
  · exact h'.rxCfg.trans h.rxCfg
  · exact h'.gfA.trans h.gfA
  · exact h'.gfB.trans h.gfB
  · exact h'.gfR.trans h.gfR
  · exact h'.rsResult.trans h.rsResult
  · exact h'.overrunCnt.trans h.overrunCnt
  · exact h'.tx.trans h.tx
  · exact h'.schedule.trans h.schedule
  · exact h'.reads.trans h.reads

theorem State.commitOutcome_keeps (s : State) (raw cw : List Byte) (o : RsOutcome) :
    s.KeepsHostSide (s.commitOutcome raw cw o) := by
  cases o <;> constructor <;> simp [State.commitOutcome]

theorem State.returnToSearch_keeps (s : State) : s.KeepsHostSide s.returnToSearch := by constructor <;> rfl

theorem State.signal_keeps (s : State) (e : Event) : s.KeepsHostSide (s.signal e) := by constructor <;> rfl

theorem State.commitPacket_keeps (s : State) (raw : List Byte) : s.KeepsHostSide (s.commitPacket raw) := by
  unfold State.commitPacket
  dsimp only
  generalize rsDecode (deinterleave raw) = o
  have h := s.commitOutcome_keeps raw (deinterleave raw) o
  refine State.KeepsHostSide.trans ?_ (State.returnToSearch_keeps _)
  split
  · exact h.trans (State.signal_keeps _ _)
  · exact h

theorem State.searchTick_keeps (s : State) (j : Fin 8) : s.KeepsHostSide (s.searchTick j) := by
  unfold State.searchTick
  dsimp only
  split <;> constructor <;> rfl

theorem State.confirmTick_keeps (s : State) (j : Fin 8) : s.KeepsHostSide (s.confirmTick j) := by
  unfold State.confirmTick
  dsimp only
  split <;> constructor <;> rfl

theorem State.loseLock_keeps (s : State) : s.KeepsHostSide s.loseLock := by constructor <;> rfl

theorem State.payloadTick_keeps (s : State) (j : Fin 8) (b : Bool) : s.KeepsHostSide (s.payloadTick j b) := by
  unfold State.payloadTick
  dsimp only
  split
  · split
    · refine State.KeepsHostSide.trans ?_ (State.loseLock_keeps _)
      constructor <;> rfl
    · split
      · refine State.KeepsHostSide.trans ?_ (State.commitPacket_keeps _ _)
        constructor <;> rfl
      · constructor <;> rfl
  · exact State.KeepsHostSide.same s

theorem State.controllerTick_keeps (s : State) (j : Fin 8) (b : Bool) : s.KeepsHostSide (s.controllerTick j b) := by
  unfold State.controllerTick
  split
  · exact State.KeepsHostSide.same s
  · exact s.searchTick_keeps j
  · exact s.confirmTick_keeps j
  · exact s.payloadTick_keeps j b

theorem State.candidateTick_keeps (s : State) : s.KeepsHostSide s.candidateTick := by
  refine State.KeepsHostSide.trans ?_ (State.controllerTick_keeps _ _ _)
  constructor <;> rfl

/-- A receive step keeps everything of the Host's side and of the TX engine. -/
theorem State.rxConsume_keeps (s : State) (x : Int) : s.KeepsHostSide (s.rxConsume x) := by
  unfold State.rxConsume
  dsimp only
  split
  · refine State.KeepsHostSide.trans ?_ (State.candidateTick_keeps _)
    constructor <;> rfl
  · constructor <;> rfl

/-- The RX engine's turn keeps everything of the Host's side and of the TX engine. -/
theorem State.rxTurn_keeps (s : State) : s.KeepsHostSide s.rxTurn := by
  rcases s.rxTurn_cases with ⟨x, rest, -, -, h⟩ | ⟨-, h⟩
  · rw [h]
    refine State.KeepsHostSide.trans ?_ (State.rxConsume_keeps _ _)
    constructor <;> rfl
  · rw [h]
    exact State.KeepsHostSide.same s

/-- A step performs the scheduled turn, or an engine's turn where nothing is scheduled, or does nothing. -/
theorem step_cases (s : State) :
    (∃ a rest, s.schedule = a :: rest ∧ step s = State.perform { s with schedule := rest } a) ∨
    (s.schedule = [] ∧ s.txReady = true ∧ step s = .next s.txTurn) ∨
    (s.schedule = [] ∧ s.txReady = false ∧ s.rxReady = true ∧ step s = .next s.rxTurn) ∨
    (s.schedule = [] ∧ s.txReady = false ∧ s.rxReady = false ∧ step s = .next s) := by
  cases h : s.schedule with
  | cons a rest =>
    left
    refine ⟨a, rest, rfl, ?_⟩
    simp only [step, State.nextAction, h, State.dequeue, List.tail_cons]
  | nil =>
    right
    have hd : s.dequeue = s := by simp only [State.dequeue, h, List.tail_nil]; rw [← h]
    cases h1 : s.txReady with
    | true =>
      left
      refine ⟨rfl, rfl, ?_⟩
      simp only [step, State.nextAction, h, State.engineTurn, h1, if_true, hd, State.perform]
    | false =>
      right
      cases h2 : s.rxReady with
      | true =>
        left
        refine ⟨rfl, rfl, rfl, ?_⟩
        simp only [step, State.nextAction, h, State.engineTurn, h1, h2, if_true, hd, State.perform]
        rfl
      | false =>
        right
        refine ⟨rfl, rfl, rfl, ?_⟩
        simp only [step, State.nextAction, h, State.engineTurn, h1, h2]
        rfl

end Sys2Proof.Machine
end

