-- ==== Sys2Proof/Laws/PerInstr.lean ====
section
/-! SUPPORT. The law made per instruction: every command is encoded as a legal word. -/

namespace Sys2Proof.Laws.EncodedLegal

/-- The command is well formed and its word is legal: RSV is 0 and OP is assigned (30_encoding.md R200, R201). -/
def Statement (i : Instr) : Prop := i.wellFormed = true ∧ legalWord (encode i) = true ∧ opField (encode i) = encodeOp i

theorem nop : Statement .nop := ⟨rfl, by decide, by decide⟩
theorem gfAdd : Statement .gfAdd := ⟨rfl, by decide, by decide⟩
theorem gfMul : Statement .gfMul := ⟨rfl, by decide, by decide⟩
theorem gfDiv : Statement .gfDiv := ⟨rfl, by decide, by decide⟩
theorem gfInv : Statement .gfInv := ⟨rfl, by decide, by decide⟩
theorem gfPow : Statement .gfPow := ⟨rfl, by decide, by decide⟩
theorem gfExp : Statement .gfExp := ⟨rfl, by decide, by decide⟩
theorem gfLog : Statement .gfLog := ⟨rfl, by decide, by decide⟩
theorem polyEval : Statement .polyEval := ⟨rfl, by decide, by decide⟩
theorem rsEncode : Statement .rsEncode := ⟨rfl, by decide, by decide⟩
theorem rsDecode : Statement .rsDecode := ⟨rfl, by decide, by decide⟩
theorem rsSyndrome : Statement .rsSyndrome := ⟨rfl, by decide, by decide⟩
theorem interleave : Statement .interleave := ⟨rfl, by decide, by decide⟩
theorem deinterleave : Statement .deinterleave := ⟨rfl, by decide, by decide⟩
theorem txSend : Statement .txSend := ⟨rfl, by decide, by decide⟩
theorem txSendRaw : Statement .txSendRaw := ⟨rfl, by decide, by decide⟩
theorem txAbort : Statement .txAbort := ⟨rfl, by decide, by decide⟩
theorem rxReset : Statement .rxReset := ⟨rfl, by decide, by decide⟩
theorem softReset : Statement .softReset := ⟨rfl, by decide, by decide⟩

end Sys2Proof.Laws.EncodedLegal
end

