-- ==== Sys2Proof/Laws/Port.lean ====
section
/-! SUPPORT. What the register port does: the map sees only the word index, and each access is the effect of what it
reaches. -/

namespace Sys2Proof.Machine

/-- Bits 1:0 of an address are ignored (20_memory.md R152). -/
theorem wordIndex_mask (a : Addr) : wordIndex (a &&& 0xFFC#12) = wordIndex a := by
  simp only [wordIndex]
  congr 1
  ext i hi
  simp only [BitVec.getElem_ushiftRight, BitVec.getLsbD_and]
  have h : ∀ k : Fin 12, (0xFFC#12).getLsbD (2 + k.val) = decide (k.val < 10) := by decide
  rw [h ⟨i, hi⟩]
  by_cases hk : i < 10
  · simp [hk]
  · simp [hk, BitVec.getLsbD_of_ge a (2 + i) (by omega)]

theorem target_mask (a : Addr) : target (a &&& 0xFFC#12) = target a := by simp only [target, wordIndex_mask]

/-- Two addresses of one word reach the same thing. -/
theorem target_same_word {a b : Addr} (h : a &&& 0xFFC#12 = b) : target a = target b := by rw [← h, target_mask]

theorem hostWrite_reg {s : State} {a : Addr} {v : Word} {r : Reg} (h : target a = .reg r) :
    s.hostWrite a v = s.writeReg r v := by simp only [State.hostWrite, h]

theorem hostWrite_word {s : State} {a : Addr} {v : Word} {b : Buf} {w : Nat} (h : target a = .word b w) :
    s.hostWrite a v = if b.writable then .next (s.setBufWord b w v) else .next (s.raiseError .roWrite) := by
  simp only [State.hostWrite, h]

theorem hostRead_reg {s : State} {a : Addr} {r : Reg} (h : target a = .reg r) :
    s.hostRead a = (s.regWord r, s.afterRegRead r) := by simp only [State.hostRead, h]

theorem hostRead_word {s : State} {a : Addr} {b : Buf} {w : Nat} (h : target a = .word b w) :
    s.hostRead a = (s.bufWord b w, s) := by simp only [State.hostRead, h]

/-- The turn at the head of the schedule is the one performed. -/
theorem step_of_schedule {s : State} {x : Action} {rest : List Action} (h : s.schedule = x :: rest) :
    step s = State.perform { s with schedule := rest } x := by
  simp only [step, State.nextAction, h, State.dequeue, List.tail_cons]

/-- With nothing scheduled an engine that may step does so, TX first (log entry 3). -/
theorem step_of_empty_schedule {s : State} (h : s.schedule = []) :
    step s = if s.txReady then .next s.txTurn else if s.rxReady then .next s.rxTurn else .next s := by
  have hd : s.dequeue = s := by cases s; simp_all [State.dequeue]
  simp only [step, State.nextAction, h, State.engineTurn]
  split <;> rename_i heq <;> split at heq <;> (try split at heq) <;> cases heq <;> simp_all [State.perform]

end Sys2Proof.Machine
end

