-- ==== Sys2Proof/Machine/HostProgram.lean ====
section
/-! DEFINITION. Host programs in the pseudo-assembly of 30_encoding.md R206 and R207, run on top of the step. The
Host's variables are outside the block and so are not part of State. -/

namespace Sys2Proof.Machine

/-- The operators of a LET expression (30_encoding.md R206). -/
inductive HpOp where
  | add
  | sub
  | mul
  | and
  | or
  | xor
  | shr
  | shl
  | mod
  | eq
  | ne
deriving DecidableEq, Repr

/-- A LET expression (30_encoding.md R206). Whether an expression may read the bytes `name[i]` of an RBUF the rule does
not say: here none can. DESIGN CHOICE, log entry 13. -/
inductive HpExpr where
  | num (n : Int)
  | var (name : String)
  | bin (op : HpOp) (x y : HpExpr)
deriving DecidableEq, Repr

/-- A statement of the pseudo-assembly (30_encoding.md R206). Which operands may be expressions the rule does not say. Here
every address, base, written value, mask, polled value and pushed sample may be any expression; the bytes of a WBUF and the
count n of an RBUF are literals. DESIGN CHOICE, log entry 13. -/
inductive HpStmt where
  | w (addr value : HpExpr)
  | r (addr : HpExpr) (name : String)
  | cmd (i : Instr)
  | wbuf (base : HpExpr) (bytes : List Byte)
  | rbuf (base : HpExpr) (n : Nat) (name : String)
  | poll (addr mask value : HpExpr)
  | push (e : HpExpr)
  | pop (name : String)
  | letVar (name : String) (e : HpExpr)
  | label (name : String)
  | jmp (target : String)
  | jnz (name target : String)
  | jz (name target : String)
deriving DecidableEq, Repr

/-- One Host access a statement performs, with what the Host does with the word it reads (30_encoding.md R206). The
address is an integer, not yet known to fit the bus (20_memory.md R151). The mask and the value of a POLL never go on the
bus: R206 states no width for them, and they are integers of any size (00_scope.md R12). DEDUCED, log entry 14. -/
inductive HpAccess where
  | wr (a : Nat) (v : Word)
  | rd (a : Nat) (name : String)
  | rdBytes (a : Nat) (name : String) (count : Nat)
  | pollRd (a : Nat) (mask value : Int)
deriving DecidableEq, Repr

/-- The Host's own state: its program, where it stands, its variables, the bytes RBUF has read, and the accesses left
of the statement under way. -/
structure HpState where
  prog : List HpStmt
  pc : Nat
  env : List (String × Int)
  bufs : List (String × List Byte)
  todo : List HpAccess
deriving DecidableEq, Repr

/-- Where a Host program stands after one of its steps. `stuck`: an expression has no value, a label is missing, or a
word or an address does not fit the bus, of which R206 says nothing (DESIGN CHOICE, log entry 11); a POLL whose mask is negative, for which `&` has no value (log entry
14), is one of these. -/
inductive HpResult where
  | running (h : HpState) (s : State)
  | finished
  | stuck

/-- Update of a name in an association list. -/
def hpAssign {α : Type} (env : List (String × α)) (name : String) (v : α) : List (String × α) :=
  (name, v) :: env.filter (fun p => p.1 != name)

/-- Value of a name in an association list. -/
def hpLookup {α : Type} (env : List (String × α)) (name : String) : Option α := (env.find? (fun p => p.1 == name)).map (·.2)

/-- A bitwise operator, defined on non-negative integers (00_scope.md R11). -/
def hpBitwise (f : Nat → Nat → Nat) (x y : Int) : Option Int :=
  if 0 ≤ x ∧ 0 ≤ y then some (Int.ofNat (f x.toNat y.toNat)) else none

/-- An operator of R206; `mod` is the non-negative remainder (00_scope.md R12), `=` and `≠` give 1 or 0. -/
def HpOp.apply (op : HpOp) (x y : Int) : Option Int :=
  match op with
  | .add => some (x + y)
  | .sub => some (x - y)
  | .mul => some (x * y)
  | .and => hpBitwise (· &&& ·) x y
  | .or => hpBitwise (· ||| ·) x y
  | .xor => hpBitwise (· ^^^ ·) x y
  | .shr => hpBitwise (· >>> ·) x y
  | .shl => hpBitwise (· <<< ·) x y
  | .mod => if 0 < y then some (x % y) else none
  | .eq => some (if x = y then 1 else 0)
  | .ne => some (if x = y then 0 else 1)

/-- The value of an expression over the Host's integer variables; the bytes an RBUF has read are no part of them
(DESIGN CHOICE, log entry 13). -/
def HpExpr.eval (e : HpExpr) (env : List (String × Int)) : Option Int :=
  match e with
  | .num n => some n
  | .var name => hpLookup env name
  | .bin op x y => do op.apply (← x.eval env) (← y.eval env)

/-- An expression's value as n bits, where it fits. -/
def HpExpr.bits (e : HpExpr) (env : List (String × Int)) (n : Nat) : Option (BitVec n) := do
  let v ← e.eval env
  if 0 ≤ v ∧ v < 2 ^ n then some (BitVec.ofInt n v) else none

/-- The word of up to four bytes from index 4w, absent bytes 0 (30_encoding.md R206, WBUF). -/
def packWord (bytes : List Byte) (w : Nat) : Word :=
  bytes.getD (4 * w + 3) 0#8 ++ bytes.getD (4 * w + 2) 0#8 ++ bytes.getD (4 * w + 1) 0#8 ++ bytes.getD (4 * w) 0#8

/-- An expression's value as an address, an integer from 0 up. -/
def HpExpr.address (e : HpExpr) (env : List (String × Int)) : Option Nat := do
  let v ← e.eval env
  if 0 ≤ v then some v.toNat else none

/-- The four bytes of a word, bits 7:0 first (20_memory.md R153). -/
def unpackWord (v : Word) : List Byte :=
  [v.extractLsb' 0 8, v.extractLsb' 8 8, v.extractLsb' 16 8, v.extractLsb' 24 8]

/-- The index after a label. -/
def hpGoto (prog : List HpStmt) (name : String) : Option Nat := (prog.findIdx? (· == .label name)).map (· + 1)

/-- The Host state after a statement is taken up: its accesses are queued, or, where it performs none, its effect on the
variables and on the place in the program is done (30_encoding.md R206). The operands of a statement are evaluated here,
once; those of a POLL are integers of no stated width (DEDUCED, log entry 14), and only a written word has to fit 32 bits
(DESIGN CHOICE, log entry 11). -/
def HpState.issue (h : HpState) (st : HpStmt) : Option HpState :=
  let next := { h with pc := h.pc + 1 }
  match st with
  | .w addr value => do some { next with todo := [.wr (← addr.address h.env) (← value.bits h.env 32)] }
  | .r addr name => do some { next with todo := [.rd (← addr.address h.env) name] }
  | .cmd i => some { next with todo := [.wr cmdAddr.toNat (encode i)] }
  | .wbuf base bytes => do
    let a ← base.address h.env
    some { next with todo := (List.range ((bytes.length + 3) / 4)).map (fun w =>
      .wr (a + 4 * w) (packWord bytes w)) }
  | .rbuf base n name => do
    let a ← base.address h.env
    some { next with
      bufs := hpAssign h.bufs name [],
      todo := (List.range ((n + 3) / 4)).map (fun w => .rdBytes (a + 4 * w) name (min 4 (n - 4 * w))) }
  | .poll addr mask value => do
    some { next with todo := [.pollRd (← addr.address h.env) (← mask.eval h.env) (← value.eval h.env)] }
  | .push e => do some { next with todo := [.wr 0x058 (BitVec.ofInt 32 ((← e.eval h.env) % 65536))] }
  | .pop name => some { next with todo := [.rd 0x05C name] }
  | .letVar name e => do some { next with env := hpAssign h.env name (← e.eval h.env) }
  | .label _ => some next
  | .jmp target => do some { h with pc := ← hpGoto h.prog target }
  | .jnz name target => do
    if (← hpLookup h.env name) = 0 then some next else some { h with pc := ← hpGoto h.prog target }
  | .jz name target => do
    if (← hpLookup h.env name) = 0 then some { h with pc := ← hpGoto h.prog target } else some next

/-- The address of an access. -/
def HpAccess.address (x : HpAccess) : Nat :=
  match x with
  | .wr a _ => a
  | .rd a _ => a
  | .rdBytes a _ _ => a
  | .pollRd a _ _ => a

/-- The turn of an access at an address of the bus. -/
def HpAccess.turn (x : HpAccess) (a : Addr) : Action :=
  match x with
  | .wr _ v => .write a v
  | .rd _ _ => .read a
  | .rdBytes _ _ _ => .read a
  | .pollRd _ _ _ => .read a

/-- The turn of an access, where its address is one of 0..4095: there is no wrap-around and no aliasing
(20_memory.md R151). -/
def HpAccess.action (x : HpAccess) : Option Action :=
  if x.address < 4096 then some (x.turn (BitVec.ofNat 12 x.address)) else none

/-- The Host state after an access returned word v; `rest` is what is left of the statement (30_encoding.md R206). R206
writes a POLL as repeated reads into a name `t`; whether `t` is a Host variable that keeps the last word is open: here
it is a temporary, and a POLL assigns no variable. DESIGN CHOICE, log entry 12. No state is answered where `t & mask` has
no value. -/
def HpState.absorb (h : HpState) (x : HpAccess) (rest : List HpAccess) (v : Word) : Option HpState :=
  match x with
  | .wr _ _ => some { h with todo := rest }
  | .rd _ name => some { h with todo := rest, env := hpAssign h.env name (Int.ofNat v.toNat) }
  | .rdBytes _ name count =>
    some { h with
      todo := rest, bufs := hpAssign h.bufs name ((hpLookup h.bufs name).getD [] ++ (unpackWord v).take count) }
  | .pollRd _ mask value =>
    (HpOp.and.apply (Int.ofNat v.toNat) mask).map (fun m => if m = value then { h with todo := rest } else h)

/-- The Host takes the block's very next turn for this access. -/
def State.hostTurn (s : State) (a : Action) : Host.Outcome State Fault Refusal := step { s with schedule := a :: s.schedule }

/-- One step of the Host's program: one access of the statement under way, or the next statement. Between two of them
any turn of the engines may come. -/
def HpState.step (h : HpState) (s : State) : HpResult :=
  match h.todo with
  | x :: rest =>
    match x.action with
    | none => .stuck
    | some a =>
      match s.hostTurn a with
      | .next s' =>
        match h.absorb x rest (s'.reads.headD 0#32) with
        | some h' => .running h' s'
        | none => .stuck
      | .fault _ => .stuck
      | .refused _ => .stuck
  | [] =>
    match h.prog[h.pc]? with
    | none => .finished
    | some st =>
      match h.issue st with
      | some h' => .running h' s
      | none => .stuck

/-- A program at its start. -/
def HpState.start (prog : List HpStmt) : HpState := { prog := prog, pc := 0, env := [], bufs := [], todo := [] }

/-! ### The pseudo-instructions of 30_encoding.md R207 -/

/-- `ACK_RX`: clear RX_RESULT.VALID and LOST. -/
def hpAckRx : HpStmt := .w (.num 0x038) (.num 0x00010001)

/-- `CLR_IRQ`. -/
def hpClrIrq : HpStmt := .w (.num 0x014) (.num 0x7F)

/-- `CLR_ERR`. -/
def hpClrErr : HpStmt := .w (.num 0x010) (.num 0)

/-- `RX_ON`. -/
def hpRxOn : HpStmt := .w (.num 0x004) (.num 1)

/-- `RX_OFF`. -/
def hpRxOff : HpStmt := .w (.num 0x004) (.num 0)

/-- `WAIT_TX_DONE`. -/
def hpWaitTxDone : HpStmt := .poll (.num 0x008) (.num 0x1) (.num 0)

/-- `WAIT_RX_RESULT`. -/
def hpWaitRxResult : HpStmt := .poll (.num 0x038) (.num 0x1) (.num 1)

end Sys2Proof.Machine
end

