-- ==== Sys2Proof/Tests/Slice0.lean ====
section
/-! SUPPORT. Tests of one step each, with expected values from 95_test_vectors.md (each theorem names its vector), and,
for every statement with hypotheses, a concrete state and operands that meet them all. -/

namespace Sys2Proof.Tests
open Sys2Proof Sys2Proof.Machine

-- The theorems are checked one after another: checked at once, each waiting one would hold a thread and its stack.
set_option Elab.async false

/-! ### Helpers -/

/-- The state whose next turn is this one. -/
def turn (a : Action) (s : State) : State := { s with schedule := [a] }

/-- The state after one step (the state itself where the step has no next state). -/
def after (s : State) : State :=
  match step s with
  | .next t => t
  | .fault _ => s
  | .refused _ => s

/-- The Host writes one word. -/
def wr (a : Addr) (v : Word) (s : State) : State := after (turn (.write a v) s)

/-- The Host writes one command word. -/
def cmd (w : Word) (s : State) : State := wr 0x00C#12 w s

/-- The word a Host read would return. -/
def rd (a : Addr) (s : State) : Word := (s.hostRead a).1

/-- After reset, with the two GF operands. -/
def gf (a b : Byte) : State := { State.reset with gfA := a, gfB := b }

/-- The message of "CQ CQ DE TEST" followed by 35 spaces (95_test_vectors.md). -/
def cqMsg : List Byte :=
  [0x43#8, 0x51#8, 0x20#8, 0x43#8, 0x51#8, 0x20#8, 0x44#8, 0x45#8, 0x20#8, 0x54#8, 0x45#8, 0x53#8, 0x54#8]
    ++ List.replicate 35 0x20#8

/-- Its parity bytes (vector RS-E4). -/
def cqParity : List Byte :=
  [0x16#8, 0xB0#8, 0xB2#8, 0x6C#8, 0xEE#8, 0xCC#8, 0xC6#8, 0x43#8, 0x26#8, 0xB1#8, 0x2C#8, 0x47#8, 0xD0#8, 0x4C#8,
    0xD0#8, 0x78#8]

/-- After reset, with the CQ codeword in CW. -/
def cqCw : State := State.reset.setBuf .cw (cqMsg ++ cqParity)

/-- After reset, with the CQ message in MSG. -/
def cqIn : State := State.reset.setBuf .msg cqMsg

/-- After reset, with CW[i] = i. -/
def countCw : State := State.reset.setBuf .cw ((List.range 64).map (BitVec.ofNat 8))

/-- After reset, with a few bytes in CW. -/
def smallCw : State := State.reset.setBuf .cw [1#8, 2#8, 3#8]

/-- 48 and 64 zero bytes: a message and its codeword. -/
def zeroMsg : List Byte := List.replicate 48 0#8
def zeroCw : List Byte := List.replicate 64 0#8

/-- A transmission at its start. -/
def txOn : State :=
  { State.reset with tx := { TxEngine.reset with
      active := true, inc1 := ncoIncrement Config.markHz 44100, inc0 := ncoIncrement Config.spaceHz 44100 } }

/-- A transmission whose bits are all sent, with these samples left. -/
def txEnd (l : List Sample) : State := { txOn with tx := { txOn.tx with k := 528, aout := l } }

/-- An open receive session. -/
def rxOn : State := State.openSession { State.reset with rxEn := true }

/-- A candidate whose last 16 decisions were the sync word, with A16 = 16·a and T16 = 16. -/
def synced (a : Nat) : Candidate :=
  { sr := 0x299F#16, fill := 16, ah := Vector.replicate 16 a, th := Vector.replicate 16 1, hpos := 0 }

/-- An open session whose candidates are all alike, in a given controller state. -/
def rxAt (c : Candidate) (ctl : Controller) : State :=
  { rxOn with rx := { rxOn.rx with cands := Vector.replicate 8 c, ctl := ctl } }

/-- An open session one payload bit before the end of a packet of these bits. -/
def rxLast (bits : Vector Bool 512) : State :=
  rxAt (synced 1) { rxOn.rx.ctl with state := .payload, pcount := 511, pbits := bits }

/-- Nine bytes of ones, then zeros, as wire bits. -/
def nineBytes : Vector Bool 512 := ⟨(List.replicate 72 true ++ List.replicate 440 false).toArray, by decide +kernel⟩

/-- A received word of nine corrupted bytes over the zero codeword. -/
def nineErrors : List Byte := List.replicate 9 0xFF#8 ++ List.replicate 55 0x00#8

/-! ### Well-formedness: the words the checks refuse (30_encoding.md R204; REG-17, REG-18) -/

theorem test_refuses_reserved_bits : legalWord 0x00000100#32 = false ∧ reservedClear 0x00000100#32 = false := by decide

theorem test_refuses_reserved_opcode : legalWord 0x00000009#32 = false ∧ opcodeAssigned 0x09#8 = false := by decide

theorem test_refuses_top_bit : legalWord 0x80000001#32 = false := by decide

theorem test_accepts_soft_reset : legalWord 0x000000FF#32 = true := by decide

theorem test_decode_names_the_reason :
    decode 0x00000109#32 = .error .reservedBits ∧ decode 0x00000009#32 = .error .reservedOpcode := by decide

/-- Of the 256 opcodes, 237 are reserved (30_encoding.md R204). -/
theorem test_reserved_opcodes : (List.range 256).countP (fun n => !opcodeAssigned (BitVec.ofNat 8 n)) = 237 := by
  decide +kernel

/-! ### Decoding of every constructor, the word written out from 30_encoding.md R200 and R203 -/

theorem test_decode_nop : decodeTableWord 32 0b00000000000000000000000000000000 = some .nop := by decide
theorem test_decode_gfAdd : decodeTableWord 32 0b00000000000000000000000000000001 = some .gfAdd := by decide
theorem test_decode_gfMul : decodeTableWord 32 0b00000000000000000000000000000010 = some .gfMul := by decide
theorem test_decode_gfDiv : decodeTableWord 32 0b00000000000000000000000000000011 = some .gfDiv := by decide
theorem test_decode_gfInv : decodeTableWord 32 0b00000000000000000000000000000100 = some .gfInv := by decide
theorem test_decode_gfPow : decodeTableWord 32 0b00000000000000000000000000000101 = some .gfPow := by decide
theorem test_decode_gfExp : decodeTableWord 32 0b00000000000000000000000000000110 = some .gfExp := by decide
theorem test_decode_gfLog : decodeTableWord 32 0b00000000000000000000000000000111 = some .gfLog := by decide
theorem test_decode_polyEval : decodeTableWord 32 0b00000000000000000000000000001000 = some .polyEval := by decide
theorem test_decode_rsEncode : decodeTableWord 32 0b00000000000000000000000000010000 = some .rsEncode := by decide
theorem test_decode_rsDecode : decodeTableWord 32 0b00000000000000000000000000010001 = some .rsDecode := by decide
theorem test_decode_rsSyndrome : decodeTableWord 32 0b00000000000000000000000000010010 = some .rsSyndrome := by decide
theorem test_decode_interleave : decodeTableWord 32 0b00000000000000000000000000011000 = some .interleave := by decide
theorem test_decode_deinterleave : decodeTableWord 32 0b00000000000000000000000000011001 = some .deinterleave := by decide
theorem test_decode_txSend : decodeTableWord 32 0b00000000000000000000000000100000 = some .txSend := by decide
theorem test_decode_txSendRaw : decodeTableWord 32 0b00000000000000000000000000100001 = some .txSendRaw := by decide
theorem test_decode_txAbort : decodeTableWord 32 0b00000000000000000000000000100010 = some .txAbort := by decide
theorem test_decode_rxReset : decodeTableWord 32 0b00000000000000000000000000110000 = some .rxReset := by decide
theorem test_decode_softReset : decodeTableWord 32 0b00000000000000000000000011111111 = some .softReset := by decide

/-- The first step after reset with a fetched word runs it (log entry 8). -/
theorem test_fetch_runs : (after ((gf 0x53 0xCA).withFetchWord 32 0x00000001)).gfR = 0x99#8 := by decide

/-! ### GF commands (vectors GF-1 to GF-41, PE-3, PE-4) -/

/-- GF-1. -/
theorem test_gfAdd : (cmd 0x01 (gf 0x53 0xCA)).gfR = 0x99#8 := by decide
/-- GF-5. -/
theorem test_gfMul : (cmd 0x02 (gf 0x53 0xCA)).gfR = 0x8F#8 := by decide
/-- GF-3. -/
theorem test_gfMul_reduces : (cmd 0x02 (gf 0x02 0x80)).gfR = 0x1D#8 := by decide
/-- GF-16. -/
theorem test_gfDiv : (cmd 0x03 (gf 0x1D 0x02)).gfR = 0x80#8 := by decide
/-- GF-19. -/
theorem test_gfDiv_by_zero : rd 0x010 (cmd 0x03 (gf 0x53 0x00)) = 0x03#32 ∧ (cmd 0x03 (gf 0x53 0x00)).gfR = 0x00#8 := by
  decide
/-- GF-12. -/
theorem test_gfInv : (cmd 0x04 (gf 0x53 0x00)).gfR = 0x8C#8 := by decide
/-- GF-15. -/
theorem test_gfInv_of_zero : rd 0x010 (cmd 0x04 (gf 0 0)) = 0x03#32 ∧ rd 0x014 (cmd 0x04 (gf 0 0)) = 0x20#32 := by decide
/-- GF-39. -/
theorem test_gfPow : (cmd 0x05 (gf 0x53 2)).gfR = 0xD5#8 := by decide
/-- GF-35. -/
theorem test_gfPow_zero_to_zero : (cmd 0x05 (gf 0 0)).gfR = 0x01#8 := by decide
/-- GF-26. -/
theorem test_gfExp : (cmd 0x06 (gf 254 0)).gfR = 0x8E#8 := by decide
/-- GF-27. -/
theorem test_gfExp_wraps : (cmd 0x06 (gf 255 0)).gfR = 0x01#8 := by decide
/-- GF-32. -/
theorem test_gfLog : (cmd 0x07 (gf 0xFF 0)).gfR = 0xAF#8 := by decide
/-- GF-34. -/
theorem test_gfLog_of_zero : rd 0x010 (cmd 0x07 (gf 0 0)) = 0x03#32 := by decide
/-- PE-3. -/
theorem test_polyEval_at_zero : (cmd 0x08 { cqCw with gfA := 0x00 }).gfR = 0x78#8 := by decide +kernel
/-- PE-4. -/
theorem test_polyEval : (cmd 0x08 { cqCw with gfA := 0x53 }).gfR = 0xE7#8 := by decide +kernel
/-- GF-41: the first error wins. -/
theorem test_first_error_wins : rd 0x010 (cmd 0x03 (cmd 0x04 (gf 0 0))) = 0x103#32 := by decide

/-! ### Reed-Solomon and interleaver (vectors RS-E4, RS-S2, RS-S3, RS-D2, RS-D5, IL-1, IL-2) -/

/-- RS-E4. -/
theorem test_rsEncode : (cmd 0x10 cqIn).bufBytes .cw = cqMsg ++ cqParity := by decide +kernel
/-- RS-S2. -/
theorem test_rsSyndrome :
    rd 0x180 (cmd 0x12 (cqCw.setBuf .cw ((cqMsg ++ cqParity).set 0 0x42#8))) = 0x5766A101#32 := by decide +kernel
/-- RS-S3. -/
theorem test_rsSyndrome_last :
    rd 0x18C (cmd 0x12 (cqCw.setBuf .cw ((cqMsg ++ cqParity).set 63 0x87#8))) = 0xFFFFFFFF#32 := by decide +kernel
/-- RS-D2. -/
theorem test_rsDecode_parity_error : rd 0x034 (cmd 0x11 (cqCw.setBuf .cw ((cqMsg ++ cqParity).set 60 0xD1#8))) = 0x11#32 := by
  decide +kernel
/-- RS-D5, over the zero codeword: the decoder sees only the error. -/
theorem test_rsDecode_nine_errors : rd 0x034 (cmd 0x11 (State.reset.setBuf .cw nineErrors)) = 0x100#32 := by
  decide +kernel
/-- R365: a clean word, and (RS-D5, over the zero codeword) nine errors. -/
theorem test_rsDecode_clean : rsDecode zeroCw = .success zeroMsg zeroCw 0 := by decide +kernel
theorem test_rsDecode_uncorrectable : rsDecode nineErrors = .uncorrectable .locatorTooLong := by decide +kernel
/-- IL-1: the second and the ninth word of CW. -/
theorem test_interleave : rd 0x144 (cmd 0x18 countCw) = 0x38302820#32 ∧ rd 0x148 (cmd 0x18 countCw) = 0x19110901#32 := by
  decide +kernel
/-- IL-2: back to the codeword, its last word. -/
theorem test_deinterleave : rd 0x17C (cmd 0x19 (cmd 0x18 cqCw)) = 0x78D04CD0#32 := by decide +kernel

/-! ### Transmit (vectors FR-1, REG-16, MOD-4, MOD-5, MOD-6, MOD-8) -/

/-- FR-1. -/
theorem test_txSend : rd 0x240 (cmd 0x20 cqIn) = 0x00007843#32 := by decide +kernel
/-- REG-16. -/
theorem test_txSend_busy : rd 0x010 (cmd 0x20 txOn) = 0x02#32 := by decide
/-- R521 by hand: SYNC, then CW[0] and CW[1]. -/
theorem test_txSendRaw : rd 0x200 (cmd 0x21 smallCw) = 0x02019F29#32 := by decide +kernel
/-- MOD-8. -/
theorem test_txAbort : rd 0x008 (cmd 0x22 (txEnd [5])) = 0#32 ∧ rd 0x014 (cmd 0x22 (txEnd [5])) = 0#32 := by decide
/-- MOD-4: a sample 13160 pops as 0x80003368. -/
theorem test_pop : rd 0x05C (txEnd [13160#16, 1#16]) = 0x80003368#32 := by decide
/-- MOD-5. -/
theorem test_tx_done :
    rd 0x014 (after (turn (.read 0x05C) (txEnd [7]))) = 0x08#32 ∧ rd 0x008 (after (turn (.read 0x05C) (txEnd [7]))) = 0#32 := by
  decide
/-- MOD-6. -/
theorem test_tx_underrun : rd 0x014 (after (turn (.read 0x05C) txOn)) = 0x10#32 := by decide
/-- MOD-0 at 44100 Hz. -/
theorem test_nco : ncoIncrement 2000 44100 = 0x0B9C2779#32 ∧ ncoIncrement 1200 44100 = 0x06F74AE2#32 := by decide
/-- MOD-1: the first samples at 8000 Hz. -/
theorem test_modulate : (modulateFrom [false, false, true] 8000 4 { k := 0, phi := 0, sacc := 0 }) =
    [0#16, 13160#16, 15679#16, 5139#16] := by decide +kernel

/-! ### Receive (vectors OVR-1, OVR-2, FR-4, DM-1) -/

/-- OVR-2. -/
theorem test_rx_disabled : rd 0x010 (wr 0x058 1 State.reset) = 0x08#32 ∧ rd 0x050 (wr 0x058 1 State.reset) = 0#32 := by
  decide
/-- OVR-1. -/
theorem test_overrun :
    rd 0x044 (wr 0x058 1 { rxOn with rx := { rxOn.rx with ain := List.replicate 1024 0#16 } }) = 1#32 := by decide +kernel
/-- R613, its example: RX_STATE 1, no samples queued or counted. -/
theorem test_rxReset :
    rd 0x008 (cmd 0x30 { rxLast nineBytes with rx := { (rxLast nineBytes).rx with ain := [1#16], samples := 9 } }) = 6#32 ∧
    rd 0x050 (cmd 0x30 { rxOn with rx := { rxOn.rx with ain := [1#16], samples := 9 } }) = 0#32 := by decide +kernel
/-- FR-4: 0x299C needs a tolerance of 2. -/
theorem test_sync_tolerance :
    ({ synced 1 with sr := 0x299C#16 }).syncMatch { syncTol := 1, lockRatio := 5 } = false ∧
    ({ synced 1 with sr := 0x299C#16 }).syncMatch { syncTol := 2, lockRatio := 5 } = true := by decide
/-- DM-1, rows 0 and 1: the products and the discriminant. -/
theorem test_front_end :
    (((RxEngine.opened 8000).fe.advance 0).advance 13160).acc = { mi := 0, mq := 13160, si := 7839, sq := 10570 } ∧
    (((RxEngine.opened 8000).fe.advance 0).advance 13160).discriminant = 10779 := by decide +kernel

/-! ### The port and reset (vectors REG-5, REG-6, REG-11, REG-14, REG-17, REG-20, REG-21) -/

/-- REG-5 and REG-6. -/
theorem test_refused_writes : rd 0x010 (wr 0x060 1 (wr 0x000 1 State.reset)) = 0x106#32 := by decide
/-- REG-11. -/
theorem test_busy_test_first : rd 0x010 (wr 0x01C 8000 txOn) = 0x04#32 := by decide
/-- REG-14. -/
theorem test_rx_cfg : rd 0x024 (wr 0x024 0xFFFFFF02 State.reset) = 0x02#32 := by decide
/-- REG-17. -/
theorem test_illegal_word : rd 0x010 (cmd 0x100 State.reset) = 0x01#32 := by decide
/-- REG-19. -/
theorem test_nop : rd 0x010 (cmd 0 (gf 1 2)) = 0#32 ∧ rd 0x014 (cmd 0 (gf 1 2)) = 0#32 := by decide
/-- REG-20. -/
theorem test_irq_clear : rd 0x014 (wr 0x014 0x20 { State.reset with irqStatus := 0x29 }) = 0x09#32 := by decide
/-- REG-21. -/
theorem test_ack : rd 0x038 (wr 0x038 1 { State.reset with
    rxResult := { valid := true, ok := true, count := 0, reason := .none, lost := true } }) = 0x00010002#32 := by decide
/-- R666, its example. -/
theorem test_softReset :
    rd 0x01C (cmd 0xFF { txOn with sampleRate := 8000 }) = 44100#32 ∧ rd 0x024 (cmd 0xFF txOn) = 0x50#32 := by decide
/-- R207: RX_ON opens the session. -/
theorem test_host_program :
    (match (HpState.start [hpRxOn]).step State.reset with
      | .running h s => (match h.step s with | .running _ t => t.rxEn | .finished => false | .stuck => false)
      | .finished => false
      | .stuck => false) = true := by decide +kernel

/-- R151: the second word of a WBUF at 0xFFC has no address; it does not wrap to 0x000. -/
theorem test_no_wrap :
    ((HpState.start []).issue (.wbuf (.num 0xFFC) (List.replicate 8 1#8))).map (fun h => h.todo.map HpAccess.action) =
      some [some (.write 0xFFC#12 0x01010101#32), none] := by decide +kernel

/-- R206, R12: a POLL's mask and value have no width: a mask of 33 bits sees the word's bits, a wider value is never met. -/
theorem test_poll_is_unbounded :
    ((HpState.start []).absorb (.pollRd 0 0x100000001 1) [] 3#32).map (fun h => h.todo) = some [] ∧
    (HpState.absorb { HpState.start [] with todo := [.rd 0 "x"] } (.pollRd 0 1 0x100000001) [] 3#32).map (fun h => h.todo) =
      some [.rd 0 "x"] ∧
    ((HpState.start []).absorb (.pollRd 0 (-1) 1) [] 3#32).isNone = true := by decide +kernel

/-! ### Witnesses: the hypotheses of each statement can be met -/

theorem witness_StepRunsTheDecodedCommand :
    (turn (.write 0x00E#12 0x01#32) (gf 1 2)).schedule = .write 0x00E#12 0x01#32 :: [] ∧
    (0x00E#12 : Addr) &&& 0xFFC#12 = 0x00C#12 ∧ decode 0x01#32 = .ok .gfAdd := by decide

theorem witness_IllegalWordOnlyRecordsAnError :
    (turn (.write 0x00C#12 0x100#32) State.reset).schedule = .write 0x00C#12 0x100#32 :: [] ∧
    (0x00C#12 : Addr) &&& 0xFFC#12 = 0x00C#12 ∧ (0x100#32 : Word).extractLsb' 8 24 ≠ 0#24 ∧
    ((0x09#32 : Word).extractLsb' 0 8).toNat ∉ [0x00, 0x01, 0x02, 0x03, 0x04, 0x05, 0x06, 0x07, 0x08, 0x10, 0x11, 0x12,
      0x18, 0x19, 0x20, 0x21, 0x22, 0x30, 0xFF] := by decide

theorem witness_TablesFollowTheirRecurrence : (253 ≤ 253 ∧ gfExp 253 = 0x47#8) ∧ (254 ≤ 254 ∧ gfExp 254 = 0x8E#8) := by
  decide

theorem witness_FieldLawsHold : (0xFF#8 : Byte) ≠ 0#8 ∧ 1 ≤ 1 := by decide

theorem witness_GfAddWritesTheSum : (gf 7 7).gfA = (gf 7 7).gfB ∧ (gf 7 0).gfB = 0#8 := by decide

theorem witness_GfMulWritesTheReducedProduct :
    (gf 0 7).gfA = 0#8 ∧ (gf 7 0).gfB = 0#8 ∧ (gf 1 7).gfA = 1#8 ∧ (gf 7 1).gfB = 1#8 := by decide

theorem witness_GfDivWritesTheQuotient :
    (gf 7 0).gfB = 0#8 ∧ (gf 0 0xFF).gfB ≠ 0#8 ∧ (gf 0 0xFF).gfA = 0#8 ∧ (gf 0xFF 0xFF).gfB ≠ 0#8 ∧
    (gf 0xFF 0xFF).gfA = (gf 0xFF 0xFF).gfB := by decide

theorem witness_GfInvWritesTheInverse : (gf 0 0).gfA = 0#8 ∧ (gf 0xFF 0).gfA ≠ 0#8 := by decide

theorem witness_GfPowWritesThePower :
    (gf 7 0).gfB = 0#8 ∧ ((gf 0 1).gfA = 0#8 ∧ (gf 0 1).gfB ≠ 0#8) ∧ ((gf 7 255).gfA ≠ 0#8 ∧ (gf 7 255).gfB = 255#8) := by
  decide

theorem witness_GfExpWritesThePowerOfAlpha : (gf 0 0).gfA = 0#8 ∧ (gf 255 0).gfA = 255#8 := by decide

theorem witness_GfLogWritesTheLogarithm : (gf 0 0).gfA = 0#8 ∧ (gf 0xFF 0).gfA ≠ 0#8 ∧ (gf 1 0).gfA = 1#8 := by decide

theorem witness_PolyEvalWritesTheValue :
    (gf 0 0).gfA = 0#8 ∧ (gf 1 0).gfA = 1#8 ∧ zeroMsg.length = 48 ∧ 15 ≤ 15 ∧ (gf 0x26 0).bufBytes .cw = rsEncode zeroMsg ∧
    (gf 0x26 0).gfA = gfRepeated alpha 15 := by decide +kernel

theorem witness_EncodedMessageIsASystematicCodeword : cqMsg.length = 48 ∧ 15 ≤ 15 := by decide

theorem witness_RsEncodeWritesTheCodeword :
    cqIn.mem.wf = true ∧ (∀ p, p < 48 → State.reset.bufByte .msg p = 0#8) ∧
    (State.reset.setBuf .msg (List.replicate 47 0#8 ++ [1#8])).mem.wf = true ∧
    ∀ p, p < 48 → (State.reset.setBuf .msg (List.replicate 47 0#8 ++ [1#8])).bufByte .msg p = if p = 47 then 1#8 else 0#8 := by
  decide +kernel

theorem witness_RsSyndromeWritesTheSyndromes :
    (State.reset.setBuf .cw (zeroCw.set 63 0xFF#8)).mem.wf = true ∧ zeroMsg.length = 48 ∧ 63 < 64 ∧
    (State.reset.setBuf .cw (zeroCw.set 63 0xFF#8)).bufBytes .cw =
      (rsEncode zeroMsg).set 63 (gfAdd ((rsEncode zeroMsg).getD 63 0#8) 0xFF#8) := by decide +kernel

theorem witness_RsDecodeReportsTheOutcome :
    State.reset.mem.wf = true ∧ rsDecode (State.reset.bufBytes .cw) = .success zeroMsg zeroCw 0 ∧
    (State.reset.setBuf .cw nineErrors).mem.wf = true ∧
    rsDecode ((State.reset.setBuf .cw nineErrors).bufBytes .cw) = .uncorrectable .locatorTooLong := by
  have h : State.reset.bufBytes .cw = zeroCw := by decide +kernel
  have h' : (State.reset.setBuf .cw nineErrors).bufBytes .cw = nineErrors := by decide +kernel
  exact ⟨rfl, h ▸ test_rsDecode_clean, by decide +kernel, h' ▸ test_rsDecode_uncorrectable⟩

theorem witness_DecodeSuccessReturnsACodewordAndItsDistance :
    zeroCw.length = 64 ∧ rsDecode zeroCw = .success zeroMsg zeroCw 0 ∧ nineErrors.length = 64 ∧
    rsDecode nineErrors = .uncorrectable .locatorTooLong :=
  ⟨by decide, test_rsDecode_clean, by decide, test_rsDecode_uncorrectable⟩

theorem witness_EncodeThenDecodeIsClean : cqIn.mem.wf = true := by decide +kernel

theorem witness_OneCorruptedByteIsCorrected :
    cqMsg.length = 48 ∧ 0 < 64 ∧ 63 < 64 ∧ (0x01#8 : Byte) ≠ 0#8 ∧ (0xFF#8 : Byte) ≠ 0#8 := by decide

theorem witness_InterleaveTransposesCw :
    smallCw.mem.wf = true ∧ State.reset.mem.wf = true ∧
    ∀ r, r < 8 → ∀ col, col < 8 → State.reset.bufByte .cw (8 * r + col) = State.reset.bufByte .cw (8 * col + r) :=
  ⟨by decide, rfl, fun r _ col _ => by simp [State.bufByte, State.reset, Memory.read, Memory.unlisted]⟩

theorem witness_DeinterleaveTransposesCwBack :
    smallCw.mem.wf = true ∧ exec .interleave smallCw = .next (smallCw.setBuf .cw (interleave smallCw.codeword)) :=
  ⟨by decide, rfl⟩

theorem witness_TxSendStartsTheFrame :
    cqIn.mem.wf = true ∧ cqIn.tx.active = false ∧ txOn.mem.wf = true ∧ txOn.tx.active = true := by decide +kernel

theorem witness_TxSendRawSendsCwAsItIs :
    cqCw.mem.wf = true ∧ cqCw.tx.active = false ∧ txOn.mem.wf = true ∧ txOn.tx.active = true := by decide +kernel

theorem witness_TxAbortEmptiesAout : txOn.tx.active = true ∧ State.reset.tx.active = false := by decide

theorem witness_SampleBelongsToItsSymbol : 600 ≤ 600 := by decide

theorem witness_FrameHasExactlyItsSamples :
    (List.replicate 528 true).length = 528 ∧ (8000 ≤ 8000 ∧ 8000 ≤ 192000 ∧ 7040 = (528 * 8000 + 599) / 600) ∧
    (8000 ≤ 192000 ∧ 192000 ≤ 192000 ∧ 168960 = (528 * 192000 + 599) / 600) ∧ 0 < 7040 ∧ 168959 < 168960 := by
  decide +kernel

theorem witness_StepKeepsTheTransmissionOnModulate :
    (turn .txTurn txOn).ConfigOk ∧ (turn .txTurn txOn).TransmitOk ∧ (turn .txTurn txOn).FollowsModulate ∧
    step (turn .txTurn txOn) = .next (after (turn .txTurn txOn)) :=
  ⟨by decide, by decide, fun _ => ⟨0, rfl, by decide, by simp [turn, txOn, TxEngine.reset]⟩, rfl⟩

theorem witness_AoutReadPopsTheOldestSample :
    (turn (.read 0x05F#12) txOn).schedule = .read 0x05F#12 :: [] ∧ (0x05F#12 : Addr) &&& 0xFFC#12 = 0x05C#12 ∧
    (txOn.tx.aout = [] ∧ txOn.tx.active = true) ∧ (State.reset.tx.aout = [] ∧ State.reset.tx.active = false) ∧
    ((txEnd [1, 2]).tx.aout = 1#16 :: [2#16] ∧ [2#16] ≠ []) ∧
    ((txEnd [1]).tx.aout = 1#16 :: [] ∧ (txEnd [1]).tx.active = true ∧ (txEnd [1]).tx.k = 528) := by decide

theorem witness_RxResetReopensTheSession : rxOn.rxEn = true ∧ State.reset.rxEn = false := by decide

theorem witness_CtrlWriteOpensAndClosesTheSession :
    (turn (.write 0x004#12 1#32) State.reset).schedule = .write 0x004#12 1#32 :: [] ∧
    (0x004#12 : Addr) &&& 0xFFC#12 = 0x004#12 ∧
    ((turn (.write 0x004#12 1#32) State.reset).rxEn = false ∧ (1#32 : Word).getLsbD 0 = true) ∧
    ((turn (.write 0x004#12 0#32) rxOn).schedule = .write 0x004#12 0#32 :: [] ∧ rxOn.rxEn = true ∧
      (0#32 : Word).getLsbD 0 = false) ∧
    (1#32 : Word).getLsbD 0 = rxOn.rxEn := by decide

theorem witness_AinWritePushesASample :
    (turn (.write 0x058#12 1#32) State.reset).schedule = .write 0x058#12 1#32 :: [] ∧
    (0x058#12 : Addr) &&& 0xFFC#12 = 0x058#12 ∧ State.reset.rxEn = false ∧
    (({ rxOn with rx := { rxOn.rx with ain := List.replicate 1024 0#16 } } : State).rxEn = true ∧
      ({ rxOn with rx := { rxOn.rx with ain := List.replicate 1024 0#16 } } : State).rx.ain.length = 1024) ∧
    (rxOn.rxEn = true ∧ rxOn.rx.ain.length ≠ 1024) := by decide +kernel

theorem witness_RxTurnConsumesTheOldestSample :
    (∀ p ∈ [0, 39299, 39300, 44099], (turn .rxTurn { rxOn with rx := { rxOn.rx with ain := [7], pacc := p } }).rxEn = true ∧
      (turn .rxTurn { rxOn with rx := { rxOn.rx with ain := [7], pacc := p } }).rx.ain = 7#16 :: [] ∧
      (turn .rxTurn { rxOn with rx := { rxOn.rx with ain := [7], pacc := p } }).schedule = .rxTurn :: []) ∧
    39299 + 4800 < rxOn.sampleRate.toNat ∧ rxOn.sampleRate.toNat ≤ 39300 + 4800 ∧
    ((turn .rxTurn State.reset).schedule = .rxTurn :: [] ∧ State.reset.rxEn = false) ∧
    ((turn .rxTurn rxOn).schedule = .rxTurn :: [] ∧ rxOn.rx.ain = []) := by decide

theorem witness_SixteenTicksFillTheSyncWindow : (List.replicate 16 ((1 : Int), 2)).length = 16 := by decide

theorem witness_SearchConfirmsThenLocks :
    ((rxAt Candidate.reset rxOn.rx.ctl).rx.ctl.state = .search ∧
      ((rxAt Candidate.reset rxOn.rx.ctl).rx.cands[(7 : Fin 8)]).syncMatch { syncTol := 0, lockRatio := 5 } = false) ∧
    ((rxAt (synced 1) rxOn.rx.ctl).rx.ctl.state = .search ∧
      ((rxAt (synced 1) rxOn.rx.ctl).rx.cands[(7 : Fin 8)]).syncMatch (rxAt (synced 1) rxOn.rx.ctl).rxCfg = true) ∧
    (∀ left ∈ [1, 2, 7], ∀ score ∈ [0, 16],
      (rxAt (synced 1) { rxOn.rx.ctl with state := .confirm, confLeft := left, confScore := score }).rx.ctl.state = .confirm ∧
      (rxAt (synced 1) { rxOn.rx.ctl with state := .confirm, confLeft := left, confScore := score }).rx.ctl.confLeft = left) ∧
    0 < (synced 1).a16 ∧ ¬ 16 < (synced 1).a16 := by decide +kernel

theorem witness_PayloadTickCollectsOrAbandons :
    (rxAt (synced 0) { rxOn.rx.ctl with state := .payload }).rx.ctl.state = .payload ∧
    (7 : Fin 8) ≠ (rxAt (synced 0) { rxOn.rx.ctl with state := .payload }).rx.ctl.lock ∧
    ((rxAt (synced 0) { rxOn.rx.ctl with state := .payload }).rx.cands[(0 : Fin 8)]).qualOk
      (rxAt (synced 0) { rxOn.rx.ctl with state := .payload }).rxCfg = false ∧
    ((rxAt (synced 1) { rxOn.rx.ctl with state := .payload, pcount := 510 }).rx.ctl.state = .payload ∧
      (rxAt (synced 1) { rxOn.rx.ctl with state := .payload, pcount := 510 }).rx.ctl.pcount.val < 511 ∧
      ((rxAt (synced 1) { rxOn.rx.ctl with state := .payload, pcount := 510 }).rx.cands[(0 : Fin 8)]).qualOk
        (rxAt (synced 1) { rxOn.rx.ctl with state := .payload, pcount := 510 }).rxCfg = true) := by decide +kernel

theorem witness_LastPayloadBitCommitsThePacket :
    ((rxLast nineBytes).mem.wf = true ∧ (rxLast nineBytes).rx.ctl.state = .payload ∧
      (rxLast nineBytes).rx.ctl.pcount.val = 511 ∧
      ((rxLast nineBytes).rx.cands[(rxLast nineBytes).rx.ctl.lock]).qualOk (rxLast nineBytes).rxCfg = true ∧
      (rxLast (Vector.replicate 512 false)).rx.ctl.state = .payload) ∧
    rsDecode (deinterleave zeroCw) = .success zeroMsg zeroCw 0 ∧
    nineErrors = (List.range 64).map (fun q => weighedByte (((nineBytes.toList.set 511 false).drop (8 * q)).take 8)) ∧
    rsDecode (deinterleave nineErrors) = .uncorrectable .locatorTooLong :=
  ⟨⟨by decide +kernel, by decide +kernel, by decide +kernel, by decide +kernel, by decide +kernel⟩,
    (by decide +kernel : deinterleave zeroCw = zeroCw) ▸ test_rsDecode_clean, by decide +kernel, by decide +kernel⟩

theorem witness_CleanChannelDeliversTheMessage : cqMsg.length = 48 := by decide

theorem witness_StepKeepsTheMemoryCanonical :
    (turn (.write 0x100#12 0x01020304#32) State.reset).MemoryOk ∧
    step (turn (.write 0x100#12 0x01020304#32) State.reset) =
      .next (after (turn (.write 0x100#12 0x01020304#32) State.reset)) := ⟨by decide, rfl⟩

theorem witness_StepKeepsTheTransmitterInRange :
    (turn (.read 0x05C#12) (txEnd [1])).ConfigOk ∧ (turn (.read 0x05C#12) (txEnd [1])).TransmitOk ∧
    step (turn (.read 0x05C#12) (txEnd [1])) = .next (after (turn (.read 0x05C#12) (txEnd [1]))) :=
  ⟨by decide, by decide, rfl⟩

theorem witness_StepKeepsTheReceiveStateSpace :
    (turn (.write 0x058#12 7#32) rxOn).ReceiveOk ∧
    step (turn (.write 0x058#12 7#32) rxOn) = .next (after (turn (.write 0x058#12 7#32) rxOn)) := ⟨by decide, rfl⟩

theorem witness_StepKeepsTheWindowSumsExact :
    (turn .rxTurn { rxOn with rx := { rxOn.rx with ain := [7] } }).ConfigOk ∧
    (turn .rxTurn { rxOn with rx := { rxOn.rx with ain := [7] } }).SessionOk ∧
    step (turn .rxTurn { rxOn with rx := { rxOn.rx with ain := [7] } }) =
      .next (after (turn .rxTurn { rxOn with rx := { rxOn.rx with ain := [7] } })) :=
  ⟨by decide, by decide +kernel, rfl⟩

theorem witness_StepKeepsTheResultsLegal :
    (turn (.write 0x00C#12 0x11#32) State.reset).ResultsOk ∧ (turn (.write 0x00C#12 0x11#32) State.reset).ErrorOk ∧
    step (turn (.write 0x00C#12 0x11#32) State.reset) = .next (after (turn (.write 0x00C#12 0x11#32) State.reset)) :=
  ⟨by decide, by decide, rfl⟩

theorem witness_TxTurnPushesASampleAndCommutesWithRx :
    (turn .txTurn txOn).schedule = .txTurn :: [] ∧
    false = ((turn .txTurn txOn).bufByte .txf ((turn .txTurn txOn).tx.k / 8)).getLsbD (7 - (turn .txTurn txOn).tx.k % 8) ∧
    (txOn.tx.active = true ∧ txOn.tx.k < 528 ∧ txOn.tx.aout.length < 1024) ∧ State.reset.tx.active = false ∧
    528 ≤ (txEnd [1]).tx.k ∧
    1024 ≤ ({ txOn with tx := { txOn.tx with aout := List.replicate 1024 0#16 } } : State).tx.aout.length := by
  decide +kernel

theorem witness_BuffersHaveOneWriter :
    step (turn .txTurn txOn) = .next (after (turn .txTurn txOn)) ∧
    (turn .txTurn txOn).nextAction ≠ some .hardReset ∧ (turn .txTurn txOn).nextAction ≠ some .rxTurn ∧
    (∀ a w, (turn .txTurn txOn).nextAction = some (.write a w) → a &&& 0xFFC#12 = 0x00C#12 → w ≠ encode .softReset) ∧
    ∀ a w, (turn .txTurn txOn).nextAction = some (.write a w) → a &&& 0xFFC#12 = 0x00C#12 →
      w ≠ encode .txSend ∧ w ≠ encode .txSendRaw := by
  refine ⟨rfl, by decide, by decide, ?_, ?_⟩ <;> intro a w h <;> cases h

/-- The first and the last address of each range. -/
theorem witness_AddressMapIsComplete :
    target 0x000 = .reg .id ∧ target 0x05F = .reg .aoutData ∧ target 0x060 = .unmapped ∧ target 0x0FF = .unmapped ∧
    target 0x100 = .word .msg 0 ∧ target 0x12F = .word .msg 11 ∧ target 0x130 = .unmapped ∧ target 0x13F = .unmapped ∧
    target 0x140 = .word .cw 0 ∧ target 0x17F = .word .cw 15 ∧ target 0x180 = .word .syn 0 ∧ target 0x18F = .word .syn 3 ∧
    target 0x190 = .unmapped ∧ target 0x1FF = .unmapped ∧ target 0x200 = .word .txf 0 ∧ target 0x243 = .word .txf 16 ∧
    target 0x244 = .unmapped ∧ target 0x27F = .unmapped ∧ target 0x280 = .word .rxRaw 0 ∧ target 0x2BF = .word .rxRaw 15 ∧
    target 0x2C0 = .word .rxCw 0 ∧ target 0x2FF = .word .rxCw 15 ∧ target 0x300 = .word .rxData 0 ∧
    target 0x32F = .word .rxData 11 ∧ target 0x330 = .unmapped ∧ target 0xFFF = .unmapped := by decide +kernel

theorem witness_RefusedAccessesOnlyRecordAnError :
    (turn (.write 0x000#12 1#32) State.reset).schedule = .write 0x000#12 1#32 :: [] ∧
    (turn (.read 0x00C#12) State.reset).schedule = .read 0x00C#12 :: [] ∧
    target 0x000#12 ∈ [.reg .id, .reg .status, .reg .syncWord, .reg .gfR, .reg .rsResult, .reg .rxSamples, .reg .diag,
      .reg .fifoLevel, .reg .txStat, .reg .aoutData] ∧
    target 0x180#12 = .word .syn 0 ∧ target 0xFFF#12 = .unmapped ∧
    target 0x03C#12 ∈ [.reg .rxStats0, .reg .rxStats1, .reg .rxOvr, .reg .irqStatus, .reg .rxResult] ∧
    target 0x010#12 = .reg .err ∧ target 0x00C#12 ∈ [.reg .cmd, .reg .ainData] := by decide

theorem witness_ReadsHaveNoSideEffect :
    ({ cqIn with schedule := [.read 0x100, .read 0x100] } : State).schedule = .read 0x100#12 :: .read 0x100#12 :: [] ∧
    target 0x100#12 ≠ .unmapped ∧ target 0x100#12 ≠ .reg .aoutData := by decide +kernel

/-- Both buffers, at their first and last words. -/
theorem witness_BufferWordReadsBackAsWritten :
    State.reset.mem.wf = true ∧
    ({ State.reset with schedule := [.write 0x17F 9, .read 0x17F] } : State).schedule =
      .write 0x17F#12 9#32 :: .read 0x17F#12 :: [] ∧
    target 0x17F#12 = .word .cw 15 ∧ target 0x140#12 = .word .cw 0 ∧ Buf.writable .cw = true ∧
    target 0x100#12 = .word .msg 0 ∧ target 0x12F#12 = .word .msg 11 ∧ Buf.writable .msg = true := by decide

theorem witness_ConfigurationWritesAreGuarded :
    (turn (.write 0x01C#12 8000#32) txOn).schedule = .write 0x01C#12 8000#32 :: [] ∧
    (0x01C#12 : Addr) &&& 0xFFC#12 = 0x01C#12 ∧ (0x024#12 : Addr) &&& 0xFFC#12 = 0x024#12 ∧ txOn.tx.active = true ∧
    rxOn.rxEn = true ∧ State.reset.tx.active = false ∧ State.reset.rxEn = false ∧
    (7999#32 : Word).toNat < 8000 ∧ 192000 < (192001#32 : Word).toNat ∧ 8000 ≤ (8000#32 : Word).toNat ∧
    (192000#32 : Word).toNat ≤ 192000 ∧ 8 < ((0x90#32 : Word).extractLsb' 4 4).toNat ∧
    ((0x80#32 : Word).extractLsb' 4 4).toNat ≤ 8 := by decide

theorem witness_PlainWritesChangeOnlyTheirBits :
    (turn (.write 0x013#12 1#32) State.reset).schedule = .write 0x013#12 1#32 :: [] ∧
    (0x013#12 : Addr) &&& 0xFFC#12 = 0x010#12 ∧ (0x017#12 : Addr) &&& 0xFFC#12 = 0x014#12 ∧
    (0x03B#12 : Addr) &&& 0xFFC#12 = 0x038#12 ∧ (0x03F#12 : Addr) &&& 0xFFC#12 = 0x03C#12 ∧
    (0x043#12 : Addr) &&& 0xFFC#12 = 0x040#12 ∧ (0x047#12 : Addr) &&& 0xFFC#12 = 0x044#12 ∧
    (0x02B#12 : Addr) &&& 0xFFC#12 = 0x028#12 ∧ (0x02F#12 : Addr) &&& 0xFFC#12 = 0x02C#12 ∧
    (0x01B#12 : Addr) &&& 0xFFC#12 = 0x018#12 := by decide

theorem witness_FirstErrorWins : State.reset.err.code = .none ∧ (State.reset.raiseError .txBusy).err.code ≠ .none := by
  decide

/-- The first and the last word of the kinds a read can meet. -/
theorem witness_ReadsReturnTheirFields :
    (turn (.read 0x00B#12) txOn).schedule = .read 0x00B#12 :: [] ∧
    target 0x003#12 = .reg .id ∧ target 0x00B#12 = .reg .status ∧ target 0x058#12 = .reg .ainData ∧
    target 0x100#12 = .word .msg 0 ∧ target 0x32F#12 = .word .rxData 11 ∧ target 0x243#12 = .word .txf 16 ∧
    (0x003#12 : Addr) &&& 0xFFC#12 = 0x000#12 ∧ (0x00B#12 : Addr) &&& 0xFFC#12 = 0x008#12 ∧
    (0x058#12 : Addr) &&& 0xFFC#12 = 0x058#12 ∧ (0x243#12 : Addr) &&& 0xFFC#12 = 0x240#12 ∧
    (0x100 ≤ (0x100#12 : Addr).toNat ∧ (0x100#12 : Addr) &&& 0xFFC#12 ≠ 0x240#12) ∧
    (0x100 ≤ (0x32F#12 : Addr).toNat ∧ (0x32F#12 : Addr) &&& 0xFFC#12 ≠ 0x240#12) := by decide +kernel

theorem witness_ResetRestoresEveryValue : (turn .hardReset txOn).schedule = .hardReset :: [] := by decide

end Sys2Proof.Tests
end

/-! What the shared operations of the transmitter and of the decode commit leave and set. -/

namespace Sys2Proof.Machine

/-! ### One sample of the modulation loop -/

theorem modAdvance_k_le (inc1 inc0 : Phase) (fs : Nat) (b : Bool) (m : ModState) :
    (modAdvance inc1 inc0 fs b m).k ≤ m.k + 1 := by
  simp only [modAdvance]
  split <;> omega

/-- The accumulator stays below a rate of at least 600 Hz (10_state.md R100). -/
theorem modAdvance_sacc_lt {inc1 inc0 : Phase} {fs : Nat} {b : Bool} {m : ModState} (hfs : Config.baud ≤ fs)
    (h : m.sacc < fs) : (modAdvance inc1 inc0 fs b m).sacc < fs := by
  simp only [modAdvance]
  split <;> omega

/-! ### The operations on the transmitter -/

theorem State.txAdvance_active (s : State) : s.txAdvance.tx.active = s.tx.active := rfl

theorem State.txAdvance_aout (s : State) : s.txAdvance.tx.aout = s.tx.aout ++ [toneSample s.tx.phi] := rfl

theorem State.txAdvance_k_le (s : State) : s.txAdvance.tx.k ≤ s.tx.k + 1 := by
  simp only [State.txAdvance]
  exact modAdvance_k_le ..

theorem State.txAdvance_sacc_lt {s : State} (hfs : Config.baud ≤ s.fs) (h : s.tx.sacc < s.fs) :
    s.txAdvance.tx.sacc < s.fs := by
  simp only [State.txAdvance]
  exact modAdvance_sacc_lt hfs h

/-- Completion ends the transmission whose last sample has left, and does nothing otherwise. -/
theorem State.txComplete_cases (s : State) :
    (s.tx.aout = [] ∧ s.tx.active = true ∧ s.tx.k = Config.frameBits ∧
      s.txComplete = State.signal { s with tx := { s.tx with active := false } } .txDone) ∨
    (¬ (s.tx.aout = [] ∧ s.tx.active = true ∧ s.tx.k = Config.frameBits) ∧ s.txComplete = s) := by
  unfold State.txComplete
  split
  next h =>
    obtain ⟨hnil, hactive, hlast⟩ := h
    exact .inl ⟨hnil, hactive, hlast, rfl⟩
  next h => exact .inr ⟨h, rfl⟩

/-! ### The commit of RS_DECODE -/

/-- RS_RESULT after a decode (41_rs_codec.md R372). -/
def RsResult.ofOutcome (o : RsOutcome) : RsResult :=
  match o with
  | .success _ _ count => { ok := true, count := BitVec.ofNat 4 count, reason := .none }
  | .uncorrectable reason => { ok := false, count := 0#4, reason := reason }

/-! Apart from memory, RS_DECODE commits RS_RESULT only. -/

@[simp] theorem State.commitDecode_sampleRate (s : State) (o : RsOutcome) :
    (s.commitDecode o).sampleRate = s.sampleRate := by
  cases o <;> simp [State.commitDecode]

@[simp] theorem State.commitDecode_rxCfg (s : State) (o : RsOutcome) : (s.commitDecode o).rxCfg = s.rxCfg := by
  cases o <;> simp [State.commitDecode]

@[simp] theorem State.commitDecode_tx (s : State) (o : RsOutcome) : (s.commitDecode o).tx = s.tx := by
  cases o <;> simp [State.commitDecode]

@[simp] theorem State.commitDecode_err (s : State) (o : RsOutcome) : (s.commitDecode o).err = s.err := by
  cases o <;> simp [State.commitDecode]

@[simp] theorem State.commitDecode_rxResult (s : State) (o : RsOutcome) : (s.commitDecode o).rxResult = s.rxResult := by
  cases o <;> simp [State.commitDecode]

@[simp] theorem State.commitDecode_rsResult (s : State) (o : RsOutcome) :
    (s.commitDecode o).rsResult = RsResult.ofOutcome o := by
  cases o <;> rfl

end Sys2Proof.Machine

/-! What a turn can do, said once: the exact next states of a command, of a Host write and of any turn, and with them
the one argument that carries an invariant over a step. -/

namespace Sys2Proof.Machine

/-! ### Commands -/

/-- The states a command can answer (47_register_access.md R651): one constructor per kind of effect, with the condition
under which the command has it. -/
inductive State.Executed (s : State) : State → Prop
  | nothing : s.Executed s
  | result (v : Byte) : s.Executed (s.setResult v)
  | domainError : s.Executed s.gfDomainError
  | buffer (b : Buf) (l : List Byte) (hb : b = .cw ∨ b = .syn) : s.Executed (s.setBuf b l)
  | decoded : s.Executed (State.commitDecode (s.setBuf .syn (syndromes s.codeword)) (rsDecode s.codeword))
  | txBusy (hactive : s.tx.active = true) : s.Executed (s.raiseError .txBusy)
  | txStarted (t : List Byte) (hidle : s.tx.active = false) : s.Executed (s.startTx t)
  | txAborted (hactive : s.tx.active = true) :
      s.Executed { s with tx := { s.tx with aout := [], active := false } }
  | reopened (hopen : s.rxEn = true) : s.Executed s.openSession
  | reset : s.Executed s.resetBlock

/-- A command that refuses the operand 0 answers the domain error or its result. -/
theorem State.Executed.of_domain_test (s : State) (a v : Byte) :
    s.Executed (if a = 0#8 then s.gfDomainError else s.setResult v) := by
  split
  · exact .domainError
  · exact .result v

/-- A transmit command answers TX_BUSY or the started transmission. -/
theorem State.Executed.of_busy_test (s : State) (t : List Byte) :
    s.Executed (if s.tx.active then s.raiseError .txBusy else s.startTx t) := by
  split
  next h => exact .txBusy h
  next h => exact .txStarted t (by simpa using h)

/-- TX_ABORT answers the ended transmission, or nothing where none is active. -/
theorem State.Executed.of_abort (s : State) :
    s.Executed (if s.tx.active then { s with tx := { s.tx with aout := [], active := false } } else s) := by
  split
  next h => exact .txAborted h
  next => exact .nothing

/-- RX_RESET answers the session opened again, or nothing where none is open. -/
theorem State.Executed.of_rxReset (s : State) : s.Executed (if s.rxEn then s.openSession else s) := by
  split
  next h => exact .reopened h
  next => exact .nothing

/-- Every command answers a next state, and it is one of these. -/
theorem exec_cases (i : Instr) (s : State) : ∃ t, exec i s = .next t ∧ s.Executed t := by
  cases i with
  | nop => exact ⟨_, rfl, .nothing⟩
  | gfAdd | gfMul | gfPow | gfExp | polyEval => exact ⟨_, rfl, .result _⟩
  | gfDiv | gfInv | gfLog => exact ⟨_, rfl, .of_domain_test s _ _⟩
  | rsEncode | interleave | deinterleave => exact ⟨_, rfl, .buffer .cw _ (.inl rfl)⟩
  | rsSyndrome => exact ⟨_, rfl, .buffer .syn _ (.inr rfl)⟩
  | rsDecode => exact ⟨_, rfl, .decoded⟩
  | txSend | txSendRaw => exact ⟨_, rfl, .of_busy_test s _⟩
  | txAbort => exact ⟨_, rfl, .of_abort s⟩
  | rxReset => exact ⟨_, rfl, .of_rxReset s⟩
  | softReset => exact ⟨_, rfl, .reset⟩

/-! ### Host writes -/

/-- The states a Host write can answer (47_register_access.md R651 to R664). `plain` gathers the registers whose writes
touch no engine, no configuration and no result. -/
inductive State.Written (s : State) : State → Prop
  | command {t : State} (h : s.Executed t) : s.Written t
  | refused (c : ErrCode) : s.Written (s.raiseError c)
  | unchanged : s.Written s
  | opened (hclosed : s.rxEn = false) : s.Written (State.openSession { s with rxEn := true })
  | closed (hopen : s.rxEn = true) : s.Written (State.closeSession { s with rxEn := false })
  | errCleared : s.Written { s with err := { code := .none, multi := false } }
  | plain (irqStatus irqEnable : BitVec 7) (gfA gfB : Byte)
      (syncCnt truncCnt delivCnt failCnt overrunCnt : BitVec 16) :
      s.Written { s with
        irqStatus := irqStatus, irqEnable := irqEnable, gfA := gfA, gfB := gfB, syncCnt := syncCnt,
        truncCnt := truncCnt, delivCnt := delivCnt, failCnt := failCnt, overrunCnt := overrunCnt }
  | rateSet (v : Word) (hidle : s.tx.active = false) (hclosed : s.rxEn = false) (hmin : Config.minRate ≤ v.toNat)
      (hmax : v.toNat ≤ Config.maxRate) : s.Written { s with sampleRate := v }
  | rxCfgSet (c : RxCfg) (hclosed : s.rxEn = false) (hratio : c.lockRatio.toNat ≤ Config.maxLockRatio) :
      s.Written { s with rxCfg := c }
  | acknowledged (v : Word) : s.Written (s.writeRxResult v)
  | overrun (hopen : s.rxEn = true) :
      s.Written (State.signal { s with overrunCnt := sat16Succ s.overrunCnt } .rxOverrun)
  | pushed (x : Sample) (hopen : s.rxEn = true) (hroom : s.rx.ain.length ≠ Config.fifoDepth) :
      s.Written { s with rx := { s.rx with ain := s.rx.ain ++ [x] } }
  | word (a : Addr) (b : Buf) (w : Nat) (v : Word) (ha : target a = .word b w) (hb : b.writable = true) :
      s.Written (s.setBufWord b w v)

theorem writeCmd_cases (s : State) (v : Word) : ∃ t, s.writeCmd v = .next t ∧ s.Written t := by
  unfold State.writeCmd
  split
  next i _ =>
    obtain ⟨t, ht, hexec⟩ := exec_cases i s
    exact ⟨t, ht, .command hexec⟩
  next => exact ⟨_, rfl, .refused _⟩

theorem writeCtrl_written (s : State) (v : Word) : s.Written (s.writeCtrl v) := by
  unfold State.writeCtrl
  split
  next hclosed _ => exact .opened hclosed
  next hopen _ => exact .closed hopen
  next => exact .unchanged
  next => exact .unchanged

theorem writeSampleRate_written (s : State) (v : Word) : s.Written (s.writeSampleRate v) := by
  unfold State.writeSampleRate
  split
  next => exact .refused _
  next hbusy =>
    obtain ⟨hidle, hclosed⟩ := not_or.1 hbusy
    split
    next => exact .refused _
    next hrange =>
      obtain ⟨hmin, hmax⟩ := not_or.1 hrange
      exact .rateSet v (by simpa using hidle) (by simpa using hclosed) (Nat.not_lt.1 hmin) (Nat.not_lt.1 hmax)

theorem writeRxCfg_written (s : State) (v : Word) : s.Written (s.writeRxCfg v) := by
  unfold State.writeRxCfg
  split
  next => exact .refused _
  next hclosed =>
    split
    next => exact .refused _
    next hratio => exact .rxCfgSet _ (by simpa using hclosed) (Nat.not_lt.1 hratio)

theorem pushAin_written (s : State) (v : Word) : s.Written (s.pushAin v) := by
  rcases s.pushAin_cases v with ⟨-, h⟩ | ⟨hopen, -, h⟩ | ⟨hopen, hroom, h⟩ <;> rw [h]
  · exact .refused _
  · exact .overrun hopen
  · exact .pushed _ hopen hroom

/-- Every register write answers a next state, and it is one of these. -/
theorem writeReg_cases (s : State) (r : Reg) (v : Word) : ∃ t, s.writeReg r v = .next t ∧ s.Written t := by
  cases r with
  | cmd => exact writeCmd_cases s v
  | ctrl => exact ⟨_, rfl, writeCtrl_written s v⟩
  | err => exact ⟨_, rfl, .errCleared⟩
  | irqStatus | irqEnable | gfA | gfB | rxStats0 | rxStats1 | rxOvr =>
    exact ⟨_, rfl, .plain _ _ _ _ _ _ _ _ _⟩
  | sampleRate => exact ⟨_, rfl, writeSampleRate_written s v⟩
  | rxCfg => exact ⟨_, rfl, writeRxCfg_written s v⟩
  | rxResult => exact ⟨_, rfl, .acknowledged v⟩
  | ainData => exact ⟨_, rfl, pushAin_written s v⟩
  | id | status | syncWord | gfR | rsResult | rxSamples | diag | fifoLevel | txStat | aoutData =>
    exact ⟨_, rfl, .refused _⟩

/-- Every Host write answers a next state, and it is one of these. -/
theorem hostWrite_cases (s : State) (a : Addr) (v : Word) : ∃ t, s.hostWrite a v = .next t ∧ s.Written t := by
  cases ha : target a with
  | reg r =>
    rw [hostWrite_reg ha]
    exact writeReg_cases s r v
  | word b w =>
    rw [hostWrite_word ha]
    cases hb : b.writable with
    | true => exact ⟨_, rfl, .word a b w v ha hb⟩
    | false => exact ⟨_, rfl, .refused _⟩
  | unmapped => exact ⟨_, by simp only [State.hostWrite, ha], .refused .unmapped⟩

/-! ### Turns -/

/-- The states a turn can answer (20_memory.md R160, R170): a Host write, a Host read with the word it records, an
engine's turn or a reset. -/
inductive State.Performed (s : State) : State → Prop
  | written {t : State} (h : s.Written t) : s.Performed t
  | read (v : Word) : s.Performed { s with reads := v :: s.reads }
  | unmappedRead (v : Word) : s.Performed { s.raiseError .unmapped with reads := v :: s.reads }
  | popped (v : Word) : s.Performed { s.popAout.2 with reads := v :: s.reads }
  | txTurn : s.Performed s.txTurn
  | rxTurn : s.Performed s.rxTurn
  | hardReset : s.Performed s.resetBlock

theorem recordRead_performed (s : State) (a : Addr) : s.Performed (s.recordRead a) := by
  unfold State.recordRead
  cases ha : target a with
  | reg r =>
    rw [hostRead_reg ha]
    cases r with
    | aoutData => exact .popped _
    | _ => exact .read _
  | word b w =>
    rw [hostRead_word ha]
    exact .read _
  | unmapped =>
    simp only [State.hostRead, ha]
    exact .unmappedRead _

/-- Every turn answers a next state, and it is one of these. -/
theorem perform_cases (s : State) (a : Action) : ∃ t, s.perform a = .next t ∧ s.Performed t := by
  cases a with
  | write a v =>
    obtain ⟨t, ht, hwritten⟩ := hostWrite_cases s a v
    exact ⟨t, ht, .written hwritten⟩
  | read a => exact ⟨_, rfl, recordRead_performed s a⟩
  | txTurn => exact ⟨_, rfl, .txTurn⟩
  | rxTurn => exact ⟨_, rfl, .rxTurn⟩
  | hardReset => exact ⟨_, rfl, .hardReset⟩

/-- What every turn keeps, and taking a turn off the schedule keeps, every step keeps. -/
theorem step_preserves {P : State → Prop} (hschedule : ∀ s rest, P s → P { s with schedule := rest })
    (hturn : ∀ s t, P s → s.Performed t → P t) {s t : State} (hs : P s) (hstep : step s = .next t) : P t := by
  rcases step_cases s with ⟨a, rest, -, h⟩ | ⟨-, -, h⟩ | ⟨-, -, -, h⟩ | ⟨-, -, -, h⟩ <;> rw [h] at hstep
  · obtain ⟨u, hu, hperformed⟩ := perform_cases { s with schedule := rest } a
    rw [hu] at hstep
    cases hstep
    exact hturn _ _ (hschedule s rest hs) hperformed
  · cases hstep
    exact hturn _ _ hs .txTurn
  · cases hstep
    exact hturn _ _ hs .rxTurn
  · cases hstep
    exact hs

end Sys2Proof.Machine

/-! The state after reset: it meets every invariant, no engine may step, and every address reads its reset value
(10_state.md R120; 70_reset_and_hazards.md R751). -/

namespace Sys2Proof.Machine

/-! ### The invariants -/

theorem reset_memoryOk : State.reset.MemoryOk := ⟨rfl, fun _ h => nomatch h⟩

theorem reset_configOk : State.reset.ConfigOk := by decide

theorem reset_errorOk : State.reset.ErrorOk := fun h => nomatch h

theorem reset_transmitOk : State.reset.TransmitOk := by decide

theorem reset_receiveOk : State.reset.ReceiveOk := by decide

/-- No session is open after reset. -/
theorem reset_sessionOk : State.reset.SessionOk := fun h => nomatch h

theorem reset_resultsOk : State.reset.ResultsOk := by decide

/-- No transmission is active after reset. -/
theorem reset_followsModulate : State.reset.FollowsModulate := fun h => nomatch h

/-- Settles O42: each invariant on its own. -/
theorem resetMeetsEveryInvariant : Obligations.ResetMeetsEveryInvariant :=
  ⟨⟨reset_memoryOk, reset_configOk, reset_errorOk, reset_transmitOk, reset_receiveOk, reset_sessionOk,
    reset_resultsOk⟩, reset_followsModulate⟩

/-! ### The address of a register -/

/-- The address of a register: its place in the map times 4 (10_state.md R60). -/
def Reg.address (r : Reg) : Addr := BitVec.ofNat 12 (4 * regMap.idxOf r)

theorem Reg.mem_regMap (r : Reg) : r ∈ regMap := by cases r <;> decide

/-- An address without its bits 1:0 is four times its word index (20_memory.md R152). -/
theorem mask_toNat (a : Addr) : (a &&& 0xFFC#12).toNat = 4 * wordIndex a := by
  have hword : (a &&& 0xFFC#12).toNat / 4 = wordIndex a := by
    rw [← wordIndex_mask a, wordIndex, BitVec.toNat_ushiftRight, Nat.shiftRight_eq_div_pow]
  have haligned : (a &&& 0xFFC#12).toNat % 2 ^ 2 = 0 := by
    rw [BitVec.toNat_and, Nat.and_mod_two_pow]
    exact Nat.and_zero _
  omega

theorem target_eq_reg_iff {a : Addr} {r : Reg} : target a = .reg r ↔ regMap[wordIndex a]? = some r := by
  unfold target
  dsimp only
  split
  next r' h => simp [h]
  next h =>
    rw [h]
    split <;> simp

/-- An access reaches a register exactly at the register's address, bits 1:0 ignored. -/
theorem mask_eq_address_iff (a : Addr) (r : Reg) : a &&& 0xFFC#12 = r.address ↔ target a = .reg r := by
  have hr : regMap[regMap.idxOf r]? = some r := List.getElem?_idxOf r.mem_regMap
  have hlt : regMap.idxOf r < 24 := List.idxOf_lt_length_of_mem r.mem_regMap
  have hnodup : regMap.Nodup := by decide
  have hword : a &&& 0xFFC#12 = r.address ↔ wordIndex a = regMap.idxOf r := by
    rw [← BitVec.toNat_inj, mask_toNat, Reg.address, BitVec.toNat_ofNat, Nat.mod_eq_of_lt (by omega)]
    omega
  rw [hword, target_eq_reg_iff]
  constructor
  · intro h
    rw [h, hr]
  · intro h
    exact ((List.getElem?_inj hlt hnodup).1 (hr.trans h.symm)).symm

/-! ### Reads after reset -/

/-- Every buffer byte is 0 after reset (10_state.md R120). -/
theorem reset_bufByte (b : Buf) (i : Nat) : State.reset.bufByte b i = 0#8 := ite_self _

theorem reset_bufWord (b : Buf) (w : Nat) : State.reset.bufWord b w = 0#32 := by
  simp only [State.bufWord, reset_bufByte]
  rfl

/-- What each register reads after reset: ID, SAMPLE_RATE, SYNC_WORD and RX_CFG have a value, all others are 0
(10_state.md R120). -/
theorem reset_regWord (r : Reg) :
    State.reset.regWord r =
      if r = .id then 0x43424152#32
      else if r = .sampleRate then 44100#32
      else if r = .syncWord then 0x0000299F#32
      else if r = .rxCfg then 0x00000050#32
      else 0#32 := by
  cases r <;> rfl

theorem reset_hostRead (a : Addr) :
    (State.reset.hostRead a).1 =
      if target a = .reg .id then 0x43424152#32
      else if target a = .reg .sampleRate then 44100#32
      else if target a = .reg .syncWord then 0x0000299F#32
      else if target a = .reg .rxCfg then 0x00000050#32
      else 0#32 := by
  cases ha : target a with
  | reg r => simp only [hostRead_reg ha, reset_regWord, Target.reg.injEq]
  | word b w => simp [hostRead_word ha, reset_bufWord]
  | unmapped => simp [State.hostRead, ha]

/-- Settles O60: a read after reset is decided by what the address reaches. -/
theorem afterResetTheBlockIsIdle : Obligations.AfterResetTheBlockIsIdle := by
  refine ⟨rfl, rfl, rfl, rfl, fun a => ?_⟩
  have hid : a &&& 0xFFC#12 = 0x000#12 ↔ target a = .reg .id := mask_eq_address_iff a .id
  have hrate : a &&& 0xFFC#12 = 0x01C#12 ↔ target a = .reg .sampleRate := mask_eq_address_iff a .sampleRate
  have hsync : a &&& 0xFFC#12 = 0x020#12 ↔ target a = .reg .syncWord := mask_eq_address_iff a .syncWord
  have hcfg : a &&& 0xFFC#12 = 0x024#12 ↔ target a = .reg .rxCfg := mask_eq_address_iff a .rxCfg
  simp only [hid, hrate, hsync, hcfg, reset_hostRead]

end Sys2Proof.Machine

/-! The configuration and the transmitter's ranges kept by every step (10_state.md R68, R70, R100; 44_modulator.md R511,
R513). -/

namespace Sys2Proof.Machine

/-! ### The ranges -/

/-- A legal SAMPLE_RATE is at least the symbol rate. -/
theorem State.ConfigOk.baud_le {s : State} (h : s.ConfigOk) : Config.baud ≤ s.fs :=
  have ⟨hmin, _, _⟩ := h
  Nat.le_trans (by decide) hmin

/-- The configuration is legal and the transmitter is in its ranges. -/
def State.TransmitterInRange (s : State) : Prop := s.ConfigOk ∧ s.TransmitOk

/-- The ranges speak of SAMPLE_RATE, RX_CFG and the TX engine only. -/
theorem State.TransmitterInRange.frame {s t : State} (h : s.TransmitterInRange)
    (hrate : t.sampleRate = s.sampleRate) (hcfg : t.rxCfg = s.rxCfg) (htx : t.tx = s.tx) : t.TransmitterInRange := by
  simpa only [State.TransmitterInRange, State.ConfigOk, State.TransmitOk, State.fs, hrate, hcfg, htx] using h

theorem resetBlock_transmitterInRange (s : State) : s.resetBlock.TransmitterInRange :=
  ⟨reset_configOk, reset_transmitOk⟩

/-- A started transmission stands at bit 0 with an empty accumulator and the increments of SAMPLE_RATE. -/
theorem startTx_transmitterInRange {s : State} (h : s.TransmitterInRange) (payload : List Byte) :
    (s.startTx payload).TransmitterInRange := by
  obtain ⟨hcfg, -, hlen, -, -⟩ := h
  have hfs : 0 < s.fs := Nat.lt_of_lt_of_le (by decide) hcfg.baud_le
  exact ⟨hcfg, Nat.zero_le _, hlen, (nomatch ·), fun _ => ⟨hfs, rfl, rfl, (nomatch ·)⟩⟩

/-- With AOUT empty and none active nothing is left to bound but the bit index. -/
theorem txAbort_transmitterInRange {s : State} (h : s.TransmitterInRange) :
    State.TransmitterInRange { s with tx := { s.tx with aout := [], active := false } } := by
  obtain ⟨hcfg, hk, -, -, -⟩ := h
  exact ⟨hcfg, hk, Nat.zero_le _, fun _ => rfl, fun hactive => nomatch hactive⟩

/-- SAMPLE_RATE changes only while no transmission is active, when no bound of the transmitter speaks of it. -/
theorem setRate_transmitterInRange {s : State} {v : Word} (h : s.TransmitterInRange) (hidle : s.tx.active = false)
    (hmin : Config.minRate ≤ v.toNat) (hmax : v.toNat ≤ Config.maxRate) :
    State.TransmitterInRange { s with sampleRate := v } := by
  obtain ⟨⟨-, -, hratio⟩, hk, hlen, hempty, -⟩ := h
  exact ⟨⟨hmin, hmax, hratio⟩, hk, hlen, hempty, fun hactive => absurd (hidle.symm.trans hactive) (by decide)⟩

/-- A sample is pushed only below bit 528 and below 1024 samples, and leaves AOUT not empty. -/
theorem txAdvance_transmitterInRange {s : State} (h : s.TransmitterInRange) (hactive : s.tx.active = true)
    (hbit : s.tx.k < Config.frameBits) (hroom : s.tx.aout.length < Config.fifoDepth) :
    s.txAdvance.TransmitterInRange := by
  obtain ⟨hcfg, -, -, -, hrunning⟩ := h
  obtain ⟨hsacc, hinc1, hinc0, -⟩ := hrunning hactive
  refine ⟨hcfg, Nat.le_trans s.txAdvance_k_le hbit, ?_, ?_, fun _ => ⟨?_, hinc1, hinc0, fun _ => ?_⟩⟩
  · simpa [State.txAdvance_aout] using hroom
  · simp [State.txAdvance_active, hactive]
  · exact State.txAdvance_sacc_lt hcfg.baud_le hsacc
  · simp [State.txAdvance_aout]

theorem txTurn_transmitterInRange {s : State} (h : s.TransmitterInRange) : s.txTurn.TransmitterInRange := by
  rcases s.txTurn_cases with ⟨hactive, hbit, hroom, heq⟩ | ⟨-, heq⟩ <;> rw [heq]
  · exact txAdvance_transmitterInRange h hactive hbit hroom
  · exact h

/-- The oldest sample leaves a running transmission: where it was the last one of bit 528, completion ends the
transmission, so that AOUT is not left empty with k at 528. -/
theorem popSample_transmitterInRange {s : State} {x : Sample} {rest : List Sample} (h : s.TransmitterInRange)
    (haout : s.tx.aout = x :: rest) :
    (State.txComplete { s with tx := { s.tx with aout := rest } }).TransmitterInRange := by
  obtain ⟨hcfg, hk, hlen, hempty, hrunning⟩ := h
  have hactive : s.tx.active = true := by
    cases hidle : s.tx.active with
    | true => rfl
    | false => simp [hempty hidle] at haout
  have hrest : rest.length ≤ Config.fifoDepth := by
    rw [haout, List.length_cons] at hlen
    omega
  obtain ⟨hsacc, hinc1, hinc0, -⟩ := hrunning hactive
  rcases State.txComplete_cases { s with tx := { s.tx with aout := rest } } with ⟨hnil, -, -, heq⟩ | ⟨hgoes_on, heq⟩
    <;> rw [heq]
  · exact ⟨hcfg, hk, hrest, fun _ => hnil, fun hrun => nomatch hrun⟩
  · exact ⟨hcfg, hk, hrest, fun hidle => absurd (hactive.symm.trans hidle) (by decide),
      fun _ => ⟨hsacc, hinc1, hinc0, fun hlast hnil => hgoes_on ⟨hnil, hactive, hlast⟩⟩⟩

theorem popAout_transmitterInRange {s : State} (h : s.TransmitterInRange) : s.popAout.2.TransmitterInRange := by
  rcases s.popAout_cases with ⟨-, -, heq⟩ | ⟨-, -, heq⟩ | ⟨x, rest, haout, heq⟩ <;> rw [heq]
  · exact h
  · exact h
  · exact popSample_transmitterInRange h haout

/-! ### Commands, writes and turns -/

theorem State.Executed.transmitterInRange {s t : State} (ht : s.Executed t) (h : s.TransmitterInRange) :
    t.TransmitterInRange := by
  cases ht with
  | nothing | result | domainError | buffer | txBusy | reopened => exact h.frame rfl rfl rfl
  | decoded => exact h.frame (by simp) (by simp) (by simp)
  | txStarted payload => exact startTx_transmitterInRange h payload
  | txAborted => exact txAbort_transmitterInRange h
  | reset => exact resetBlock_transmitterInRange s

theorem State.Written.transmitterInRange {s t : State} (ht : s.Written t) (h : s.TransmitterInRange) :
    t.TransmitterInRange := by
  cases ht with
  | command hexec => exact hexec.transmitterInRange h
  | refused | unchanged | opened | closed | errCleared | plain | acknowledged | overrun | pushed | word =>
    exact h.frame rfl rfl rfl
  | rateSet v hidle _ hmin hmax => exact setRate_transmitterInRange h hidle hmin hmax
  | rxCfgSet c _ hratio =>
    obtain ⟨⟨hmin, hmax, -⟩, htx⟩ := h
    exact ⟨⟨hmin, hmax, hratio⟩, htx⟩

theorem State.Performed.transmitterInRange {s t : State} (ht : s.Performed t) (h : s.TransmitterInRange) :
    t.TransmitterInRange := by
  cases ht with
  | written hwritten => exact hwritten.transmitterInRange h
  | read | unmappedRead => exact h.frame rfl rfl rfl
  | popped => exact popAout_transmitterInRange h
  | txTurn => exact txTurn_transmitterInRange h
  | rxTurn =>
    have hkeeps := s.rxTurn_keeps
    exact h.frame hkeeps.sampleRate hkeeps.rxCfg hkeeps.tx
  | hardReset => exact resetBlock_transmitterInRange s

/-- Settles O44: the bounds speak of SAMPLE_RATE, RX_CFG and the TX engine, and every turn that touches these keeps
them. -/
theorem stepKeepsTheTransmitterInRange : Obligations.StepKeepsTheTransmitterInRange :=
  fun _ _ hcfg htx hstep =>
    step_preserves (P := State.TransmitterInRange) (fun _ _ h => h) (fun _ _ h ht => ht.transmitterInRange h)
      ⟨hcfg, htx⟩ hstep

end Sys2Proof.Machine

/-! The result registers and ERR kept legal by every step (10_state.md R65, R74, R75). -/

namespace Sys2Proof.Machine

/-! ### What the decoder gives the result registers -/

/-- A successful decode counts at most 8 errors (41_rs_codec.md R362, R365). -/
theorem rsDecode_count_le {r data cw : List Byte} {count : Nat} (h : rsDecode r = .success data cw count) :
    count ≤ Config.correctable := by
  rcases rsDecode_cases r with ⟨-, hclean⟩ | ⟨f, -, hfail⟩ | ⟨r', -, hlen, -, -, -, hcorrected⟩
  · rw [hclean] at h
    cases h
    exact Nat.zero_le _
  · rw [hfail] at h
    cases h
  · rw [hcorrected] at h
    cases h
    exact hlen

/-- RX_RESULT after the commit of a decode (46_rx_controller.md R609). -/
def RxResult.afterDecode (old : RxResult) (o : RsOutcome) : RxResult :=
  match o with
  | .success _ _ count => old.replace true (BitVec.ofNat 4 count) .none
  | .uncorrectable reason => old.replace false 0#4 reason

/-- OK, COUNT and REASON of a result register: COUNT is 0..8, 0 on a failure, and REASON is NONE on a success
(10_state.md R74, R75). -/
def LegalResult (ok : Bool) (count : BitVec 4) (reason : FailReason) : Prop :=
  count.toNat ≤ Config.correctable ∧ (ok = false → count = 0#4) ∧ (ok = true → reason = .none)

theorem legalResult_success {r data cw : List Byte} {count : Nat} (h : rsDecode r = .success data cw count) :
    LegalResult true (BitVec.ofNat 4 count) .none :=
  ⟨Nat.le_trans (Nat.mod_le ..) (rsDecode_count_le h), (nomatch ·), fun _ => rfl⟩

theorem legalResult_failure (reason : FailReason) : LegalResult false 0#4 reason :=
  ⟨Nat.zero_le _, fun _ => rfl, (nomatch ·)⟩

theorem RsResult.ofOutcome_legal (w : List Byte) :
    LegalResult (RsResult.ofOutcome (rsDecode w)).ok (RsResult.ofOutcome (rsDecode w)).count
      (RsResult.ofOutcome (rsDecode w)).reason := by
  cases h : rsDecode w with
  | success => exact legalResult_success h
  | uncorrectable reason => exact legalResult_failure reason

theorem RxResult.afterDecode_legal (old : RxResult) (w : List Byte) :
    LegalResult (old.afterDecode (rsDecode w)).ok (old.afterDecode (rsDecode w)).count
      (old.afterDecode (rsDecode w)).reason := by
  cases h : rsDecode w with
  | success => exact legalResult_success h
  | uncorrectable reason => exact legalResult_failure reason

/-! ### RX_RESULT over a receive step -/

@[simp] theorem State.commitOutcome_rxResult (s : State) (raw cw : List Byte) (o : RsOutcome) :
    (s.commitOutcome raw cw o).rxResult = s.rxResult.afterDecode o := by
  cases o <;> rfl

@[simp] theorem State.commitPacket_rxResult (s : State) (raw : List Byte) :
    (s.commitPacket raw).rxResult = s.rxResult.afterDecode (rsDecode (deinterleave raw)) := by
  simp only [State.commitPacket, State.returnToSearch_rxResult]
  split <;> simp

@[simp] theorem State.searchTick_rxResult (s : State) (j : Fin 8) : (s.searchTick j).rxResult = s.rxResult := by
  simp only [State.searchTick]
  split <;> rfl

@[simp] theorem State.confirmTick_rxResult (s : State) (j : Fin 8) : (s.confirmTick j).rxResult = s.rxResult := by
  simp only [State.confirmTick]
  split <;> rfl

@[simp] theorem State.loseLock_rxResult (s : State) : s.loseLock.rxResult = s.rxResult := rfl

/-- From s to t RX_RESULT stays as it is, or takes the outcome of decoding one word. -/
def State.DecodesAtMostOnce (s t : State) : Prop :=
  t.rxResult = s.rxResult ∨ ∃ w : List Byte, t.rxResult = s.rxResult.afterDecode (rsDecode w)

theorem State.payloadTick_decodesAtMostOnce (s : State) (j : Fin 8) (b : Bool) :
    s.DecodesAtMostOnce (s.payloadTick j b) := by
  simp only [State.payloadTick]
  split
  · split
    · exact .inl rfl
    · split
      · exact .inr ⟨_, State.commitPacket_rxResult ..⟩
      · exact .inl rfl
  · exact .inl rfl

theorem State.controllerTick_decodesAtMostOnce (s : State) (j : Fin 8) (b : Bool) :
    s.DecodesAtMostOnce (s.controllerTick j b) := by
  unfold State.controllerTick
  split
  · exact .inl rfl
  · exact .inl (s.searchTick_rxResult j)
  · exact .inl (s.confirmTick_rxResult j)
  · exact s.payloadTick_decodesAtMostOnce j b

theorem State.rxConsume_decodesAtMostOnce (s : State) (x : Int) : s.DecodesAtMostOnce (s.rxConsume x) := by
  simp only [State.rxConsume]
  split
  · exact State.controllerTick_decodesAtMostOnce _ _ _
  · exact .inl rfl

theorem State.rxTurn_decodesAtMostOnce (s : State) : s.DecodesAtMostOnce s.rxTurn := by
  rcases s.rxTurn_cases with ⟨x, rest, -, -, h⟩ | ⟨-, h⟩ <;> rw [h]
  · exact State.rxConsume_decodesAtMostOnce _ _
  · exact .inl rfl

/-! ### The registers -/

/-- Both result registers are legal, and MULTI stands only beside a recorded code. -/
def State.ReportsLegal (s : State) : Prop := s.ResultsOk ∧ s.ErrorOk

/-- Legality speaks of RS_RESULT, RX_RESULT and ERR only. -/
theorem State.ReportsLegal.frame {s t : State} (h : s.ReportsLegal) (hrs : t.rsResult = s.rsResult)
    (hrx : t.rxResult = s.rxResult) (herr : t.err = s.err) : t.ReportsLegal := by
  simpa only [State.ReportsLegal, State.ResultsOk, State.ErrorOk, hrs, hrx, herr] using h

theorem resetBlock_reportsLegal (s : State) : s.resetBlock.ReportsLegal := ⟨reset_resultsOk, reset_errorOk⟩

/-- An error with a code recorded leaves the code; the first one finds MULTI clear (60_exceptions.md R701). -/
theorem ErrReg.record_multi {r : ErrReg} {c : ErrCode} (h : r.multi = true → r.code ≠ .none)
    (hmulti : (r.record c).multi = true) : (r.record c).code ≠ .none := by
  by_cases hcode : r.code = .none
  · rw [ErrReg.record_first c hcode] at hmulti
    exact absurd hcode (h hmulti)
  · rw [ErrReg.record_later c hcode]
    exact hcode

theorem raiseError_reportsLegal {s : State} (h : s.ReportsLegal) (c : ErrCode) : (s.raiseError c).ReportsLegal := by
  obtain ⟨hresults, herr⟩ := h
  exact ⟨hresults, ErrReg.record_multi herr⟩

theorem commitDecode_reportsLegal {s : State} (h : s.ReportsLegal) (w : List Byte) :
    (s.commitDecode (rsDecode w)).ReportsLegal := by
  obtain ⟨⟨-, hrx⟩, herr⟩ := h
  simp only [State.ReportsLegal, State.ResultsOk, State.ErrorOk, State.commitDecode_rsResult,
    State.commitDecode_rxResult, State.commitDecode_err]
  exact ⟨⟨RsResult.ofOutcome_legal w, hrx⟩, herr⟩

/-- A pop of AOUT touches no result and no error. -/
theorem popAout_reportsLegal {s : State} (h : s.ReportsLegal) : s.popAout.2.ReportsLegal := by
  rcases s.popAout_cases with ⟨-, -, heq⟩ | ⟨-, -, heq⟩ | ⟨x, rest, -, heq⟩ <;> rw [heq]
  · exact h.frame rfl rfl rfl
  · exact h
  · rcases State.txComplete_cases { s with tx := { s.tx with aout := rest } } with ⟨-, -, -, heq⟩ | ⟨-, heq⟩
      <;> rw [heq]
    · exact h.frame rfl rfl rfl
    · exact h.frame rfl rfl rfl

theorem txTurn_reportsLegal {s : State} (h : s.ReportsLegal) : s.txTurn.ReportsLegal := by
  rw [s.txTurn_eq]
  exact h.frame rfl rfl rfl

theorem rxTurn_reportsLegal {s : State} (h : s.ReportsLegal) : s.rxTurn.ReportsLegal := by
  have hkeeps := s.rxTurn_keeps
  rcases s.rxTurn_decodesAtMostOnce with hrx | ⟨w, hrx⟩
  · exact h.frame hkeeps.rsResult hrx hkeeps.err
  · obtain ⟨⟨hrs, -⟩, herr⟩ := h
    simp only [State.ReportsLegal, State.ResultsOk, State.ErrorOk, hkeeps.rsResult, hkeeps.err, hrx]
    exact ⟨⟨hrs, RxResult.afterDecode_legal _ w⟩, herr⟩

/-! ### Commands, writes and turns -/

theorem State.Executed.reportsLegal {s t : State} (ht : s.Executed t) (h : s.ReportsLegal) : t.ReportsLegal := by
  cases ht with
  | nothing | result | buffer | txStarted | txAborted | reopened => exact h.frame rfl rfl rfl
  | domainError => exact raiseError_reportsLegal (h.frame rfl rfl rfl) .gfDomain
  | decoded => exact commitDecode_reportsLegal (s := s.setBuf .syn _) (h.frame rfl rfl rfl) _
  | txBusy => exact raiseError_reportsLegal h .txBusy
  | reset => exact resetBlock_reportsLegal s

theorem State.Written.reportsLegal {s t : State} (ht : s.Written t) (h : s.ReportsLegal) : t.ReportsLegal := by
  cases ht with
  | command hexec => exact hexec.reportsLegal h
  | refused c => exact raiseError_reportsLegal h c
  | unchanged | opened | closed | plain | rateSet | rxCfgSet | overrun | pushed | word =>
    exact h.frame rfl rfl rfl
  | errCleared =>
    obtain ⟨hresults, -⟩ := h
    exact ⟨hresults, (nomatch ·)⟩
  | acknowledged => exact h

theorem State.Performed.reportsLegal {s t : State} (ht : s.Performed t) (h : s.ReportsLegal) : t.ReportsLegal := by
  cases ht with
  | written hwritten => exact hwritten.reportsLegal h
  | read => exact h.frame rfl rfl rfl
  | unmappedRead => exact (raiseError_reportsLegal h .unmapped).frame rfl rfl rfl
  | popped => exact (popAout_reportsLegal h).frame rfl rfl rfl
  | txTurn => exact txTurn_reportsLegal h
  | rxTurn => exact rxTurn_reportsLegal h
  | hardReset => exact resetBlock_reportsLegal s

/-- Settles O47: a new result is the outcome of a decode, a new error is recorded beside the first code, and every other
turn leaves the three registers alone or resets them. -/
theorem stepKeepsTheResultsLegal : Obligations.StepKeepsTheResultsLegal :=
  fun _ _ hresults herr hstep =>
    step_preserves (P := State.ReportsLegal) (fun _ _ h => h.frame rfl rfl rfl) (fun _ _ h ht => ht.reportsLegal h)
      ⟨hresults, herr⟩ hstep

end Sys2Proof.Machine

/-! The address map over the whole window (20_memory.md R157): which addresses reach a buffer's word, and which
nothing. -/

namespace Sys2Proof.Machine

/-! ### The words of the window -/

theorem wordIndex_eq (a : Addr) : wordIndex a = a.toNat / 4 := by
  rw [wordIndex, BitVec.toNat_ushiftRight, Nat.shiftRight_eq_div_pow]

/-- The words of the window that hold a buffer. -/
def Buf.HoldsWord (b : Buf) (i : Nat) : Prop := b.base / 4 ≤ i ∧ i < b.base / 4 + b.words

theorem Buf.forall_iff {P : Buf → Prop} :
    (∀ b, P b) ↔ P .msg ∧ P .cw ∧ P .syn ∧ P .txf ∧ P .rxRaw ∧ P .rxCw ∧ P .rxData :=
  ⟨fun h => ⟨h _, h _, h _, h _, h _, h _, h _⟩, fun ⟨_, _, _, _, _, _, _⟩ b => by cases b <;> assumption⟩

theorem Buf.mem_bufMap (b : Buf) : b ∈ bufMap := by cases b <;> decide

/-- Every buffer starts at a word. -/
theorem Buf.base_mod_four (b : Buf) : b.base % 4 = 0 := by cases b <;> rfl

/-- Every buffer lies behind the registers. -/
theorem Buf.HoldsWord.regMap_length_le {b : Buf} {i : Nat} (h : b.HoldsWord i) : regMap.length ≤ i :=
  have hb : regMap.length ≤ b.base / 4 := by cases b <;> decide
  Nat.le_trans hb h.1

/-- A word lies in one buffer at most. -/
theorem Buf.HoldsWord.unique {b c : Buf} {i : Nat} (hb : b.HoldsWord i) (hc : c.HoldsWord i) : b = c := by
  by_contra hne
  have hb4 := b.base_mod_four
  have hc4 := c.base_mod_four
  simp only [Buf.HoldsWord, Buf.words] at hb hc
  rcases Buf.disjoint hne with h | h <;> omega

/-! ### What an address reaches -/

/-- An address reaches a register, behind them the buffer that holds its word, or nothing. -/
theorem target_cases (a : Addr) :
    (∃ r, wordIndex a < regMap.length ∧ target a = .reg r) ∨
    (∃ b : Buf, b.HoldsWord (wordIndex a) ∧ target a = .word b (wordIndex a - b.base / 4)) ∨
    (regMap.length ≤ wordIndex a ∧ (∀ b : Buf, ¬ b.HoldsWord (wordIndex a)) ∧ target a = .unmapped) := by
  unfold target
  dsimp only
  split
  next r hr =>
    obtain ⟨hlt, -⟩ := List.getElem?_eq_some_iff.1 hr
    exact .inl ⟨r, hlt, rfl⟩
  next hreg =>
    split
    next b hb => exact .inr (.inl ⟨b, by simpa [Buf.HoldsWord] using List.find?_some hb, rfl⟩)
    next hbuf =>
      have hout (b : Buf) : ¬ b.HoldsWord (wordIndex a) := by
        simpa [Buf.HoldsWord] using List.find?_eq_none.1 hbuf b b.mem_bufMap
      exact .inr (.inr ⟨List.getElem?_eq_none_iff.1 hreg, hout, rfl⟩)

theorem target_eq_word_iff {a : Addr} {b : Buf} {w : Nat} :
    target a = .word b w ↔ b.HoldsWord (wordIndex a) ∧ w = wordIndex a - b.base / 4 := by
  rcases target_cases a with ⟨r, hreg, ha⟩ | ⟨c, hc, ha⟩ | ⟨-, hout, ha⟩ <;> rw [ha]
  · simp only [reduceCtorEq, false_iff]
    exact fun ⟨hb, _⟩ => Nat.not_le.2 hreg hb.regMap_length_le
  · rw [Target.word.injEq]
    constructor
    · rintro ⟨rfl, rfl⟩
      exact ⟨hc, rfl⟩
    · rintro ⟨hb, rfl⟩
      obtain rfl := hb.unique hc
      exact ⟨rfl, rfl⟩
  · simp [hout b]

theorem target_eq_unmapped_iff {a : Addr} :
    target a = .unmapped ↔ regMap.length ≤ wordIndex a ∧ ∀ b : Buf, ¬ b.HoldsWord (wordIndex a) := by
  rcases target_cases a with ⟨r, hreg, ha⟩ | ⟨b, hb, ha⟩ | ⟨hge, hout, ha⟩ <;> rw [ha]
  · simp only [reduceCtorEq, false_iff]
    exact fun ⟨hge, _⟩ => Nat.not_le.2 hreg hge
  · simp only [reduceCtorEq, false_iff]
    exact fun ⟨_, hout⟩ => hout b hb
  · exact iff_of_true rfl ⟨hge, hout⟩

/-- The addresses from a buffer's base to the end of its last word reach its words. -/
theorem target_of_base_le {a : Addr} {b : Buf} (hlow : b.base ≤ a.toNat) (hhigh : a.toNat < b.base + 4 * b.words) :
    target a = .word b ((a.toNat - b.base) / 4) := by
  have hb4 := b.base_mod_four
  rw [target_eq_word_iff, wordIndex_eq, Buf.HoldsWord]
  omega

/-- Settles O50: each register at its address, each buffer from its base to its end, and in the gaps between them
nothing. -/
theorem addressMapIsComplete : Obligations.AddressMapIsComplete := by
  intro a
  have hreg (r : Reg) : a &&& 0xFFC#12 = r.address → target a = .reg r := (mask_eq_address_iff a r).1
  refine ⟨hreg .id, hreg .ctrl, hreg .status, hreg .cmd, hreg .err, hreg .irqStatus, hreg .irqEnable,
    hreg .sampleRate, hreg .syncWord, hreg .rxCfg, hreg .gfA, hreg .gfB, hreg .gfR, hreg .rsResult, hreg .rxResult,
    hreg .rxStats0, hreg .rxStats1, hreg .rxOvr, hreg .rxSamples, hreg .diag, hreg .fifoLevel, hreg .txStat,
    hreg .ainData, hreg .aoutData, target_of_base_le (b := .msg), target_of_base_le (b := .cw),
    target_of_base_le (b := .syn), target_of_base_le (b := .txf), target_of_base_le (b := .rxRaw),
    target_of_base_le (b := .rxCw), target_of_base_le (b := .rxData), ?_⟩
  have hlen : regMap.length = 24 := rfl
  simp only [target_eq_unmapped_iff, wordIndex_eq, Buf.forall_iff, hlen, Buf.HoldsWord, Buf.base, Buf.words, Buf.size]
  omega
end Sys2Proof.Machine

/-! Accesses that are refused or only read (20_memory.md R156, R159). -/

namespace Sys2Proof.Machine

/-! ### Accesses of unmapped words -/

theorem hostWrite_unmapped {s : State} {a : Addr} {v : Word} (h : target a = .unmapped) :
    s.hostWrite a v = .next (s.raiseError .unmapped) := by simp only [State.hostWrite, h]

theorem hostRead_unmapped {s : State} {a : Addr} (h : target a = .unmapped) :
    s.hostRead a = (0#32, s.raiseError .unmapped) := by simp only [State.hostRead, h]

/-! ### Register writes that are refused, and those that clear -/

/-- The registers the Host may not write (20_memory.md R156). -/
def readOnlyRegs : List Reg :=
  [.id, .status, .syncWord, .gfR, .rsResult, .rxSamples, .diag, .fifoLevel, .txStat, .aoutData]

theorem writeReg_readOnly {r : Reg} (h : r ∈ readOnlyRegs) (s : State) (v : Word) :
    s.writeReg r v = .next (s.raiseError .roWrite) := by
  simp only [readOnlyRegs, List.mem_cons, List.not_mem_nil, or_false] at h
  rcases h with rfl | rfl | rfl | rfl | rfl | rfl | rfl | rfl | rfl | rfl <;> rfl

/-- The registers a write clears without touching ERR (20_memory.md R156). -/
def clearedRegs : List Reg := [.rxStats0, .rxStats1, .rxOvr, .irqStatus, .rxResult]

theorem writeReg_cleared_err {r : Reg} (h : r ∈ clearedRegs) (s : State) (v : Word) :
    ∃ t, s.writeReg r v = .next t ∧ t.err = s.err := by
  simp only [clearedRegs, List.mem_cons, List.not_mem_nil, or_false] at h
  rcases h with rfl | rfl | rfl | rfl | rfl <;> exact ⟨_, rfl, rfl⟩

theorem Buf.writable_readOnly {b : Buf} (h : b ∈ [Buf.syn, .txf, .rxRaw, .rxCw, .rxData]) : b.writable = false := by
  cases b with
  | msg | cw => simp at h
  | syn | txf | rxRaw | rxCw | rxData => rfl

/-! ### Scheduled accesses -/

theorem step_write {s : State} {a : Addr} {v : Word} {rest : List Action} (h : s.schedule = .write a v :: rest) :
    step s = State.hostWrite { s with schedule := rest } a v := step_of_schedule h

theorem step_read {s : State} {a : Addr} {rest : List Action} (h : s.schedule = .read a :: rest) :
    step s = .next (State.recordRead { s with schedule := rest } a) := step_of_schedule h

/-- Settles O51: each clause is the effect of the access on what its address reaches. -/
theorem refusedAccessesOnlyRecordAnError : Obligations.RefusedAccessesOnlyRecordAnError := by
  rintro s a v rest s' rfl
  refine ⟨fun hs => ?_, fun hs => ?_⟩
  · simp only [step_write hs]
    refine ⟨fun ha => ?_, fun b hb w ha => ?_, fun ha => hostWrite_unmapped ha, fun ha => ?_, fun ha => ?_⟩
    · obtain ⟨r, hr, hra⟩ := List.mem_map.1 (show target a ∈ readOnlyRegs.map .reg from ha)
      rw [hostWrite_reg hra.symm, writeReg_readOnly hr]
    · simp [hostWrite_word ha, Buf.writable_readOnly hb]
    · obtain ⟨r, hr, hra⟩ := List.mem_map.1 (show target a ∈ clearedRegs.map .reg from ha)
      rw [hostWrite_reg hra.symm]
      exact writeReg_cleared_err hr _ v
    · rw [hostWrite_reg ha]
      exact ⟨_, rfl, rfl⟩
  · simp only [step_read hs, State.recordRead]
    refine ⟨fun ha => ?_, fun ha => ?_⟩
    · rw [hostRead_unmapped ha]
      rfl
    · simp only [List.mem_cons, List.not_mem_nil, or_false] at ha
      rcases ha with ha | ha <;> rw [hostRead_reg ha] <;> rfl

/-! ### Reads without side effect -/

/-- Only a read of AOUT_DATA or of an unmapped word leaves another state (20_memory.md R159). -/
theorem hostRead_keeps_state {s : State} {a : Addr} (hmapped : target a ≠ .unmapped)
    (haout : target a ≠ .reg .aoutData) : (s.hostRead a).2 = s := by
  cases ha : target a with
  | reg r =>
    rw [hostRead_reg ha]
    cases r with
    | aoutData => exact absurd ha haout
    | _ => rfl
  | word b w => rw [hostRead_word ha]
  | unmapped => exact absurd ha hmapped

/-- The word a read returns does not depend on the schedule and on the words read before. -/
theorem hostRead_word_congr (s : State) (a : Addr) (rest : List Action) (words : List Word) :
    (State.hostRead { s with schedule := rest, reads := words } a).1 = (s.hostRead a).1 := by
  cases ha : target a with
  | reg r =>
    rw [hostRead_reg ha, hostRead_reg ha]
    cases r with
    | aoutData =>
      simp only [State.regWord, State.popAout]
      cases s.tx.aout <;> rfl
    | _ => rfl
  | word b w =>
    rw [hostRead_word ha, hostRead_word ha]
    rfl
  | unmapped => rw [hostRead_unmapped ha, hostRead_unmapped ha]

/-- Such a read records its word and changes nothing else. -/
theorem step_read_of_no_effect {s : State} {a : Addr} {v : Word} {rest : List Action}
    (hs : s.schedule = .read a :: rest) (hmapped : target a ≠ .unmapped) (haout : target a ≠ .reg .aoutData)
    (hv : (s.hostRead a).1 = v) : step s = .next { s with schedule := rest, reads := v :: s.reads } := by
  have hword : (State.hostRead { s with schedule := rest } a).1 = v := (hostRead_word_congr s a rest s.reads).trans hv
  rw [step_read hs, State.recordRead, hostRead_keeps_state hmapped haout, hword]

/-- Settles O52: both reads record the word of the first state. -/
theorem readsHaveNoSideEffect : Obligations.ReadsHaveNoSideEffect :=
  fun s a rest hs hmapped haout =>
    ⟨(s.hostRead a).1, _, step_read_of_no_effect hs hmapped haout rfl, rfl,
      step_read_of_no_effect rfl hmapped haout (hostRead_word_congr s a (.read a :: rest) _)⟩

end Sys2Proof.Machine

/-! A word of MSG or CW reads back as written and touches its four bytes only (20_memory.md R153). -/

namespace Sys2Proof.Machine

/-- The four bytes of a word of MSG or CW lie inside the buffer: both fill whole words. -/
theorem Buf.word_end_le {a : Addr} {b : Buf} {w : Nat} (ha : target a = .word b w) (hb : b.writable = true) :
    4 * w + 4 ≤ b.size := by
  obtain ⟨⟨hlow, hhigh⟩, hw⟩ := target_eq_word_iff.1 ha
  have hwhole : 4 * b.words = b.size := by
    cases b with
    | msg | cw => rfl
    | syn | txf | rxRaw | rxCw | rxData => cases hb
  omega

/-- The four bytes of a word, bits 7:0 first. -/
theorem getD_wordBytes (v : Word) {i : Nat} (hi : i < 4) :
    [v.extractLsb' 0 8, v.extractLsb' 8 8, v.extractLsb' 16 8, v.extractLsb' 24 8].getD i 0#8
      = v.extractLsb' (8 * i) 8 := by
  match i, hi with
  | 0, _ | 1, _ | 2, _ | 3, _ => rfl

/-- A word is its four bytes, bits 7:0 last. -/
theorem wordBytes_append (v : Word) :
    v.extractLsb' 24 8 ++ v.extractLsb' 16 8 ++ v.extractLsb' 8 8 ++ v.extractLsb' 0 8 = v := by
  rw [BitVec.extractLsb'_append_extractLsb'_eq_extractLsb' (show 24 = 16 + 8 from rfl),
    BitVec.extractLsb'_append_extractLsb'_eq_extractLsb' (show 16 = 8 + 8 from rfl),
    BitVec.extractLsb'_append_extractLsb'_eq_extractLsb' (show 8 = 0 + 8 from rfl)]
  exact BitVec.extractLsb'_eq_self

theorem bufByte_setBufWord_same {s : State} {b : Buf} {w i : Nat} (v : Word) (hwf : s.mem.wf = true)
    (hw : 4 * w + 4 ≤ b.size) (hi : i < 4) :
    (s.setBufWord b w v).bufByte b (4 * w + i) = v.extractLsb' (8 * i) 8 := by
  rw [State.bufByte, if_pos (by omega), ← Nat.add_assoc]
  exact (Memory.read_writeBytes_same hwf hi).trans (getD_wordBytes v hi)

theorem bufWord_setBufWord_same {s : State} {b : Buf} {w : Nat} (v : Word) (hwf : s.mem.wf = true)
    (hw : 4 * w + 4 ≤ b.size) : (s.setBufWord b w v).bufWord b w = v := by
  have hbyte {i : Nat} (hi : i < 4) := bufByte_setBufWord_same (i := i) v hwf hw hi
  have hfirst := hbyte (i := 0) (by decide)
  rw [Nat.add_zero] at hfirst
  rw [State.bufWord, hfirst, hbyte (by decide), hbyte (by decide), hbyte (by decide)]
  exact wordBytes_append v

theorem read_setBufWord_other {s : State} {b : Buf} {w x : Nat} (v : Word)
    (hx : x < b.base + 4 * w ∨ b.base + 4 * w + 4 ≤ x) : (s.setBufWord b w v).mem.read x = s.mem.read x :=
  Memory.read_writeBytes_other hx

/-- Settles O53: the write puts the word's four bytes, and the read puts them together again. -/
theorem bufferWordReadsBackAsWritten : Obligations.BufferWordReadsBackAsWritten := by
  intro s a v rest b w hwf hs ha hb
  have hw := Buf.word_end_le ha hb
  refine ⟨State.setBufWord { s with schedule := .read a :: rest } b w v, ?_, rfl, State.setBufWord_wf hwf,
    fun i hi => bufByte_setBufWord_same v hwf hw hi, fun x hx => read_setBufWord_other v hx, ?_⟩
  · rw [step_write hs, hostWrite_word ha, if_pos hb]
  · refine step_read_of_no_effect rfl ?_ ?_ ?_
    · simp [ha]
    · simp [ha]
    · rw [hostRead_word ha]
      exact bufWord_setBufWord_same v hwf hw

end Sys2Proof.Machine

/-! Who writes which buffer, and that every step keeps the memory canonical and inside the buffers (20_memory.md R157,
R171). -/

namespace Sys2Proof.Machine

/-! ### Memory written inside given buffers -/

/-- From m to m' runs of bytes were put, each inside one buffer that P allows. -/
inductive Memory.WrittenIn (P : Buf → Prop) (m : Memory) : Memory → Prop
  | same : Memory.WrittenIn P m m
  | run {m' : Memory} {b : Buf} {a : Nat} {bytes : List Byte} (h : Memory.WrittenIn P m m') (hb : P b)
      (hlow : b.base ≤ a) (hhigh : a + bytes.length ≤ b.base + b.size) :
      Memory.WrittenIn P m (m'.writeBytes a bytes)

theorem Memory.WrittenIn.wf {P : Buf → Prop} {m m' : Memory} (h : m.WrittenIn P m') (hm : m.wf = true) :
    m'.wf = true := by
  induction h with
  | same => exact hm
  | run _ _ _ _ ih => exact Memory.writeBytes_wf ih

theorem bufferAddress_of_mem {b : Buf} {a : Nat} (hlow : b.base ≤ a) (hhigh : a < b.base + b.size) :
    bufferAddress a = true :=
  List.any_eq_true.2 ⟨b, b.mem_bufMap, by simp [hlow, hhigh]⟩

theorem Memory.WrittenIn.listed {P : Buf → Prop} {m m' : Memory} (h : m.WrittenIn P m')
    (hm : ∀ c ∈ m, bufferAddress c.1 = true) : ∀ c ∈ m', bufferAddress c.1 = true := by
  induction h with
  | same => exact hm
  | run _ _ hlow hhigh ih =>
    intro c hc
    rcases Memory.mem_writeBytes hc with hc | ⟨hfrom, hto⟩
    · exact ih c hc
    · exact bufferAddress_of_mem (Nat.le_trans hlow hfrom) (Nat.lt_of_lt_of_le hto hhigh)

/-- A byte of a buffer that P does not allow reads as before. -/
theorem Memory.WrittenIn.read_other {P : Buf → Prop} {m m' : Memory} (h : m.WrittenIn P m') {c : Buf} (hc : ¬ P c)
    {i : Nat} (hi : i < c.size) : m'.read (c.base + i) = m.read (c.base + i) := by
  induction h with
  | same => rfl
  | @run _ b _ _ _ hb hlow hhigh ih =>
    have hbc : b ≠ c := by
      rintro rfl
      exact hc hb
    rw [Memory.read_writeBytes_other, ih]
    rcases Buf.disjoint hbc with h | h <;> omega

theorem Memory.WrittenIn.bufBytes_other {P : Buf → Prop} {s t : State} (h : s.mem.WrittenIn P t.mem) {c : Buf}
    (hc : ¬ P c) : t.bufBytes c = s.bufBytes c := by
  refine List.map_congr_left fun i hi => ?_
  have hi := List.mem_range.1 hi
  simp only [State.bufByte, if_pos hi, h.read_other hc hi]

theorem Memory.WrittenIn.mono {P Q : Buf → Prop} {m m' : Memory} (h : m.WrittenIn P m') (hPQ : ∀ b, P b → Q b) :
    m.WrittenIn Q m' := by
  induction h with
  | same => exact .same
  | run _ hb hlow hhigh ih => exact .run ih (hPQ _ hb) hlow hhigh

theorem Memory.WrittenIn.setBuf {P : Buf → Prop} {m : Memory} {s : State} (h : m.WrittenIn P s.mem) {b : Buf} (hb : P b)
    (l : List Byte) : m.WrittenIn P (s.setBuf b l).mem :=
  .run h hb (Nat.le_refl _) (Nat.add_le_add_left (List.length_take_le ..) _)

theorem Memory.WrittenIn.ite {P : Buf → Prop} {m : Memory} {c : Prop} [Decidable c] {s t : State}
    (hs : m.WrittenIn P s.mem) (ht : m.WrittenIn P t.mem) : m.WrittenIn P (if c then s else t).mem := by
  split
  · exact hs
  · exact ht

/-! ### Commands -/

/-- The buffers a command writes (20_memory.md R171). -/
def CommandWrites (i : Instr) (b : Buf) : Prop :=
  match i with
  | .rsEncode | .interleave | .deinterleave => b = .cw
  | .rsSyndrome => b = .syn
  | .rsDecode => b = .syn ∨ b = .cw ∨ b = .msg
  | .txSend | .txSendRaw => b = .txf
  | .nop | .gfAdd | .gfMul | .gfDiv | .gfInv | .gfPow | .gfExp | .gfLog | .polyEval | .txAbort | .rxReset
  | .softReset => False

theorem commitDecode_writtenIn {P : Buf → Prop} {m : Memory} {s : State} (h : m.WrittenIn P s.mem) (hcw : P .cw)
    (hmsg : P .msg) (o : RsOutcome) : m.WrittenIn P (s.commitDecode o).mem := by
  cases o <;> simp only [State.commitDecode]
  case success data cw count => exact (h.setBuf hcw cw).setBuf hmsg data
  case uncorrectable => exact h.setBuf hmsg _

theorem startTx_writtenIn {P : Buf → Prop} {m : Memory} {s : State} (h : m.WrittenIn P s.mem) (htxf : P .txf)
    (t : List Byte) : m.WrittenIn P (s.startTx t).mem := by
  change m.WrittenIn P (s.setBuf .txf (frameBytes t)).mem
  exact h.setBuf htxf _

/-- A command resets the block or writes inside its own buffers. -/
theorem exec_memory {i : Instr} {s t : State} (h : exec i s = .next t) :
    i = .softReset ∨ s.mem.WrittenIn (CommandWrites i) t.mem := by
  cases i with
  | softReset => exact .inl rfl
  | nop | gfAdd | gfMul | gfPow | gfExp | polyEval =>
    cases h
    exact .inr .same
  | gfDiv | gfInv | gfLog | txAbort | rxReset =>
    cases h
    exact .inr (.ite .same .same)
  | rsEncode | rsSyndrome | interleave | deinterleave =>
    cases h
    refine .inr (.setBuf .same ?_ _)
    rfl
  | rsDecode =>
    cases h
    refine .inr (commitDecode_writtenIn (.setBuf .same ?_ _) ?_ ?_ _)
    · exact .inl rfl
    · exact .inr (.inl rfl)
    · exact .inr (.inr rfl)
  | txSend | txSendRaw =>
    cases h
    refine .inr (.ite .same (startTx_writtenIn .same ?_ _))
    rfl

/-! ### The receive engine -/

/-- The buffers of a received packet (46_rx_controller.md R609). -/
def Buf.Received (b : Buf) : Prop := b = .rxRaw ∨ b = .rxCw ∨ b = .rxData

theorem commitOutcome_writtenIn {m : Memory} {s : State} (h : m.WrittenIn Buf.Received s.mem) (raw cw : List Byte)
    (o : RsOutcome) : m.WrittenIn Buf.Received (s.commitOutcome raw cw o).mem := by
  have hcommit (raw cw data : List Byte) :
      m.WrittenIn Buf.Received (((s.setBuf .rxRaw raw).setBuf .rxCw cw).setBuf .rxData data).mem :=
    ((h.setBuf (.inl rfl) raw).setBuf (.inr (.inl rfl)) cw).setBuf (.inr (.inr rfl)) data
  cases o <;> simp only [State.commitOutcome, State.signal_mem]
  case success data ccw count => exact hcommit raw ccw data
  case uncorrectable => exact hcommit raw cw _

theorem commitPacket_writtenIn {m : Memory} {s : State} (h : m.WrittenIn Buf.Received s.mem) (raw : List Byte) :
    m.WrittenIn Buf.Received (s.commitPacket raw).mem := by
  have hcommit := commitOutcome_writtenIn h raw (deinterleave raw) (rsDecode (deinterleave raw))
  simp only [State.commitPacket, State.returnToSearch_mem]
  exact .ite hcommit hcommit

@[simp] theorem State.searchTick_mem (s : State) (j : Fin 8) : (s.searchTick j).mem = s.mem := by
  simp only [State.searchTick]
  split <;> rfl

@[simp] theorem State.confirmTick_mem (s : State) (j : Fin 8) : (s.confirmTick j).mem = s.mem := by
  simp only [State.confirmTick]
  split <;> rfl

/-- On a payload tick only the 512th bit writes memory: it commits the packet. -/
theorem payloadTick_writtenIn {m : Memory} {s : State} (h : m.WrittenIn Buf.Received s.mem) (j : Fin 8) (b : Bool) :
    m.WrittenIn Buf.Received (s.payloadTick j b).mem := by
  simp only [State.payloadTick]
  refine .ite (.ite h (.ite (commitPacket_writtenIn ?_ _) h)) h
  exact h

theorem controllerTick_writtenIn {m : Memory} {s : State} (h : m.WrittenIn Buf.Received s.mem) (j : Fin 8) (b : Bool) :
    m.WrittenIn Buf.Received (s.controllerTick j b).mem := by
  unfold State.controllerTick
  split
  · exact h
  · rwa [State.searchTick_mem]
  · rwa [State.confirmTick_mem]
  · exact payloadTick_writtenIn h j b

theorem rxConsume_writtenIn {m : Memory} {s : State} (h : m.WrittenIn Buf.Received s.mem) (x : Int) :
    m.WrittenIn Buf.Received (s.rxConsume x).mem := by
  simp only [State.rxConsume, State.candidateTick]
  refine .ite (controllerTick_writtenIn ?_ _ _) h
  exact h

theorem rxTurn_writtenIn (s : State) : s.mem.WrittenIn Buf.Received s.rxTurn.mem := by
  rcases s.rxTurn_cases with ⟨x, rest, -, -, h⟩ | ⟨-, h⟩ <;> rw [h]
  · refine rxConsume_writtenIn ?_ _
    exact .same
  · exact .same

/-! ### Turns -/

/-- The buffers a turn writes: the receive buffers belong to the RX engine, MSG and CW to the Host's writes, and each
command has its own (20_memory.md R171). -/
inductive Action.Writes : Action → Buf → Prop
  | received {b : Buf} (hb : b.Received) : Action.Writes .rxTurn b
  | word {a : Addr} {v : Word} {b : Buf} {w : Nat} (ha : target a = .word b w) (hb : b.writable = true) :
      Action.Writes (.write a v) b
  | command {a : Addr} {v : Word} {i : Instr} {b : Buf} (ha : target a = .reg .cmd) (hv : decode v = .ok i)
      (hb : CommandWrites i b) : Action.Writes (.write a v) b

/-- The turns that reset the block (70_reset_and_hazards.md R750). -/
inductive Action.Resets : Action → Prop
  | hardReset : Action.Resets .hardReset
  | softReset {a : Addr} {v : Word} (ha : target a = .reg .cmd) (hv : decode v = .ok .softReset) :
      Action.Resets (.write a v)

theorem writeCtrl_mem (s : State) (v : Word) : (s.writeCtrl v).mem = s.mem := by
  unfold State.writeCtrl
  split <;> rfl

theorem writeSampleRate_mem (s : State) (v : Word) : (s.writeSampleRate v).mem = s.mem := by
  unfold State.writeSampleRate
  split
  · rfl
  · split <;> rfl

theorem writeRxCfg_mem (s : State) (v : Word) : (s.writeRxCfg v).mem = s.mem := by
  unfold State.writeRxCfg
  split
  · rfl
  · split <;> rfl

theorem pushAin_mem (s : State) (v : Word) : (s.pushAin v).mem = s.mem := by
  rcases s.pushAin_cases v with ⟨-, h⟩ | ⟨-, -, h⟩ | ⟨-, -, h⟩ <;> rw [h] <;> rfl

/-- Of the register writes only a command touches memory. -/
theorem writeReg_mem {s t : State} {r : Reg} {v : Word} (hr : r ≠ .cmd) (h : s.writeReg r v = .next t) :
    t.mem = s.mem := by
  cases r with
  | cmd => exact absurd rfl hr
  | ctrl =>
    cases h
    exact writeCtrl_mem s v
  | sampleRate =>
    cases h
    exact writeSampleRate_mem s v
  | rxCfg =>
    cases h
    exact writeRxCfg_mem s v
  | ainData =>
    cases h
    exact pushAin_mem s v
  | _ =>
    cases h
    rfl

theorem popAout_mem (s : State) : s.popAout.2.mem = s.mem := by
  rcases s.popAout_cases with ⟨-, -, h⟩ | ⟨-, -, h⟩ | ⟨x, rest, -, h⟩ <;> rw [h]
  · rfl
  · rcases State.txComplete_cases { s with tx := { s.tx with aout := rest } } with ⟨-, -, -, h⟩ | ⟨-, h⟩ <;> rw [h]
    rfl

/-- A read touches no memory. -/
theorem recordRead_mem (s : State) (a : Addr) : (s.recordRead a).mem = s.mem := by
  change (s.hostRead a).2.mem = s.mem
  cases ha : target a with
  | reg r =>
    rw [hostRead_reg ha]
    cases r with
    | aoutData => exact popAout_mem s
    | _ => rfl
  | word b w => rw [hostRead_word ha]
  | unmapped =>
    rw [hostRead_unmapped ha]
    rfl

theorem setBufWord_writtenIn {P : Buf → Prop} (s : State) {a : Addr} {b : Buf} {w : Nat} (v : Word)
    (ha : target a = .word b w) (hb : b.writable = true) (hP : P b) :
    s.mem.WrittenIn P (s.setBufWord b w v).mem := by
  have hend := Buf.word_end_le ha hb
  refine .run .same hP (Nat.le_add_right _ _) ?_
  simp only [List.length_cons, List.length_nil]
  omega

theorem hostWrite_memory {s t : State} {a : Addr} {v : Word} (h : s.hostWrite a v = .next t) :
    Action.Resets (.write a v) ∨ s.mem.WrittenIn (Action.Writes (.write a v)) t.mem := by
  cases ha : target a with
  | reg r =>
    rw [hostWrite_reg ha] at h
    by_cases hr : r = .cmd
    · subst hr
      simp only [State.writeReg, State.writeCmd] at h
      split at h
      next i hv =>
        rcases exec_memory h with rfl | hwritten
        · exact .inl (.softReset ha hv)
        · exact .inr (hwritten.mono fun _ hb => .command ha hv hb)
      next =>
        cases h
        exact .inr .same
    · rw [writeReg_mem hr h]
      exact .inr .same
  | word b w =>
    rw [hostWrite_word ha] at h
    cases hb : b.writable with
    | true =>
      rw [hb] at h
      cases h
      exact .inr (setBufWord_writtenIn s v ha hb (.word ha hb))
    | false =>
      rw [hb] at h
      cases h
      exact .inr .same
  | unmapped =>
    rw [hostWrite_unmapped ha] at h
    cases h
    exact .inr .same

/-- A turn resets the block or writes inside its own buffers. -/
theorem perform_memory {s t : State} {a : Action} (h : s.perform a = .next t) :
    a.Resets ∨ s.mem.WrittenIn a.Writes t.mem := by
  cases a with
  | write a v => exact hostWrite_memory h
  | read a =>
    cases h
    rw [recordRead_mem]
    exact .inr .same
  | txTurn =>
    cases h
    rw [s.txTurn_eq]
    exact .inr .same
  | rxTurn =>
    cases h
    exact .inr ((rxTurn_writtenIn s).mono fun _ => .received)
  | hardReset => exact .inl .hardReset

theorem Action.Resets.perform {a : Action} (h : a.Resets) (s : State) : s.perform a = .next s.resetBlock := by
  cases h with
  | hardReset => rfl
  | softReset ha hv =>
    simp only [State.perform, hostWrite_reg ha, State.writeReg, State.writeCmd, hv, exec, execSoftReset]

/-! ### Steps -/

/-- A step performs the next action, or does nothing where there is none. -/
theorem step_next_cases {s t : State} (h : step s = .next t) :
    (∃ a, s.nextAction = some a ∧ s.dequeue.perform a = .next t) ∨ (s.nextAction = none ∧ t = s) := by
  unfold step at h
  split at h
  next a ha => exact .inl ⟨a, ha, h⟩
  next hnone =>
    cases h
    exact .inr ⟨hnone, rfl⟩

/-- Settles O43: a reset empties the memory, and every other turn puts its bytes inside the buffers. -/
theorem stepKeepsTheMemoryCanonical : Obligations.StepKeepsTheMemoryCanonical := by
  rintro s t ⟨hwf, hlisted⟩ hstep
  rcases step_next_cases hstep with ⟨a, -, hperform⟩ | ⟨-, rfl⟩
  · rcases perform_memory hperform with hreset | hwritten
    · rw [hreset.perform] at hperform
      cases hperform
      exact reset_memoryOk
    · exact ⟨hwritten.wf hwf, hwritten.listed hlisted⟩
  · exact ⟨hwf, hlisted⟩

/-! ### One writer each -/

theorem eq_encodeOp_of_decodeOp {op : Byte} {i : Instr} : decodeOp op = some i → op = encodeOp i := by
  fun_cases decodeOp op with
  -- the last branch: a reserved opcode
  | case20 => exact fun h => nomatch h
  | _ =>
    rintro ⟨⟩
    assumption

theorem rsvField_append_opField (v : Word) : rsvField v ++ opField v = v :=
  BitVec.extractLsb'_append_extractLsb'_eq_extractLsb' rfl |>.trans BitVec.extractLsb'_eq_self

/-- Only the encoding of a command is decoded to it (30_encoding.md R201). -/
theorem eq_encode_of_decode {v : Word} {i : Instr} (h : decode v = .ok i) : v = encode i := by
  unfold decode at h
  split at h
  next hrsv =>
    split at h
    next j hop =>
      cases h
      rw [encode, ← eq_encodeOp_of_decodeOp hop, ← hrsv, rsvField_append_opField]
    next => cases h
  next => cases h

/-- No command writes a receive buffer. -/
theorem CommandWrites.not_received {i : Instr} {b : Buf} (h : CommandWrites i b) : ¬ b.Received := by
  cases i with
  | rsEncode | rsSyndrome | interleave | deinterleave | txSend | txSendRaw =>
    obtain rfl := h
    simp [Buf.Received]
  | rsDecode => rcases h with rfl | rfl | rfl <;> simp [Buf.Received]
  | _ => exact h.elim

/-- The receive buffers are written by the RX engine only. -/
theorem Action.Writes.received_only {a : Action} {b : Buf} (h : a.Writes b) (hb : b.Received) : a = .rxTurn := by
  cases h with
  | received => rfl
  | word _ hwritable => rcases hb with rfl | rfl | rfl <;> cases hwritable
  | command _ _ hi => exact absurd hb hi.not_received

/-- TXF is written by TX_SEND and TX_SEND_RAW only. -/
theorem Action.Writes.txf_only {a : Action} (h : a.Writes .txf) :
    ∃ addr v, a = .write addr v ∧ target addr = .reg .cmd ∧ (v = encode .txSend ∨ v = encode .txSendRaw) := by
  cases h with
  | received hb => rcases hb with hb | hb | hb <;> cases hb
  | word _ hwritable => cases hwritable
  | @command addr v i _ ha hv hi =>
    refine ⟨addr, v, rfl, ha, ?_⟩
    cases i with
    | txSend => exact .inl (eq_encode_of_decode hv)
    | txSendRaw => exact .inr (eq_encode_of_decode hv)
    | rsEncode | rsSyndrome | interleave | deinterleave => cases hi
    | rsDecode => rcases hi with hi | hi | hi <;> cases hi
    | _ => exact hi.elim

/-- Settles O49: the turn is no reset, so it writes inside its own buffers. -/
theorem buffersHaveOneWriter : Obligations.BuffersHaveOneWriter := by
  intro s t hstep hhard hsoft
  have hcmd (a : Addr) : target a = .reg .cmd → a &&& 0xFFC#12 = 0x00C#12 := (mask_eq_address_iff a .cmd).2
  rcases step_next_cases hstep with ⟨a, ha, hperform⟩ | ⟨-, rfl⟩
  · rcases perform_memory hperform with hreset | hwritten
    · cases hreset with
      | hardReset => exact absurd ha hhard
      | softReset htarget hv => exact absurd (eq_encode_of_decode hv) (hsoft _ _ ha (hcmd _ htarget))
    · rw [State.dequeue_mem] at hwritten
      refine ⟨fun hrx => ?_, fun hsend => hwritten.bufBytes_other fun htxf => ?_⟩
      · have hother {b : Buf} (hb : b.Received) : t.bufBytes b = s.bufBytes b :=
          hwritten.bufBytes_other fun hwrites => hrx (ha.trans (congrArg some (hwrites.received_only hb)))
        exact ⟨hother (.inl rfl), hother (.inr (.inl rfl)), hother (.inr (.inr rfl))⟩
      · obtain ⟨addr, v, rfl, htarget, hv⟩ := htxf.txf_only
        obtain ⟨hne, hneRaw⟩ := hsend addr v ha (hcmd addr htarget)
        exact hv.elim hne hneRaw
  · exact ⟨fun _ => ⟨rfl, rfl, rfl⟩, fun _ => rfl⟩

end Sys2Proof.Machine

/-! The command words: decode and encode agree over every word, and what a CMD write does with a legal and with an
illegal one (30_encoding.md R201 to R204, 47_register_access.md R651, R652). -/

namespace Sys2Proof.Machine

/-! ### Decoding what was encoded -/

@[simp] theorem decodeOp_encodeOp (i : Instr) : decodeOp (encodeOp i) = some i := by cases i <;> rfl

@[simp] theorem rsvField_encode (i : Instr) : rsvField (encode i) = 0#24 :=
  BitVec.extractLsb'_append_eq_left

@[simp] theorem opField_encode (i : Instr) : opField (encode i) = encodeOp i :=
  BitVec.extractLsb'_append_eq_right

@[simp] theorem decode_encode (i : Instr) : decode (encode i) = .ok i := by simp [decode]

theorem decode_eq_ok_iff {w : Word} {i : Instr} : decode w = .ok i ↔ w = encode i := by
  constructor
  · exact eq_encode_of_decode
  · rintro rfl
    exact decode_encode i

/-! ### The legal words -/

/-- The nineteen commands, in the order of the opcode map (30_encoding.md R203). -/
def commands : List Instr :=
  [.nop, .gfAdd, .gfMul, .gfDiv, .gfInv, .gfPow, .gfExp, .gfLog, .polyEval, .rsEncode, .rsDecode, .rsSyndrome,
    .interleave, .deinterleave, .txSend, .txSendRaw, .txAbort, .rxReset, .softReset]

theorem mem_commands (i : Instr) : i ∈ commands := by cases i <;> decide

/-- The values of the assigned opcodes. -/
def assignedOpcodes : List Nat := commands.map fun i => (encodeOp i).toNat

theorem mem_assignedOpcodes_iff {op : Byte} : op.toNat ∈ assignedOpcodes ↔ ∃ i, op = encodeOp i := by
  simp only [assignedOpcodes, List.mem_map, mem_commands, true_and, BitVec.toNat_inj, eq_comm]

/-- A word with RSV 0 is the encoding of the command that has its opcode. -/
theorem eq_encode_iff_fields {w : Word} {i : Instr} : w = encode i ↔ rsvField w = 0#24 ∧ opField w = encodeOp i := by
  constructor
  · rintro rfl
    exact ⟨rsvField_encode i, opField_encode i⟩
  · rintro ⟨hrsv, hop⟩
    rw [← rsvField_append_opField w, hrsv, hop, encode]

/-- A word is some command's if and only if it is legal (30_encoding.md R201). -/
theorem exists_decode_eq_ok_iff {w : Word} :
    (∃ i, decode w = .ok i) ↔ rsvField w = 0#24 ∧ (opField w).toNat ∈ assignedOpcodes := by
  simp only [decode_eq_ok_iff, eq_encode_iff_fields, exists_and_left, mem_assignedOpcodes_iff]

/-- Settles O2: a word decodes to a command exactly if it is the command's encoding, and the encodings are the words
with RSV 0 and an assigned opcode. -/
theorem legalWordsAreExactlyTheEncodings : Obligations.LegalWordsAreExactlyTheEncodings :=
  fun _ => ⟨fun _ => decode_eq_ok_iff, exists_decode_eq_ok_iff⟩

/-- Settles O1: each word is the encoding of its command. -/
theorem decodeReadsTheOpcodeMap : Obligations.DecodeReadsTheOpcodeMap :=
  ⟨decode_encode .nop, decode_encode .gfAdd, decode_encode .gfMul, decode_encode .gfDiv, decode_encode .gfInv,
    decode_encode .gfPow, decode_encode .gfExp, decode_encode .gfLog, decode_encode .polyEval,
    decode_encode .rsEncode, decode_encode .rsDecode, decode_encode .rsSyndrome, decode_encode .interleave,
    decode_encode .deinterleave, decode_encode .txSend, decode_encode .txSendRaw, decode_encode .txAbort,
    decode_encode .rxReset, decode_encode .softReset⟩

/-! ### A write to CMD -/

theorem writeCmd_of_decode {v : Word} {i : Instr} (h : decode v = .ok i) (s : State) : s.writeCmd v = exec i s := by
  simp only [State.writeCmd, h]

theorem writeCmd_illegal {v : Word} (h : ¬ ∃ i, decode v = .ok i) (s : State) :
    s.writeCmd v = .next (s.raiseError .illegalCmd) := by
  cases hv : decode v with
  | ok i => exact absurd ⟨i, hv⟩ h
  | error e => simp only [State.writeCmd, hv]

theorem step_write_cmd {s : State} {a : Addr} {v : Word} {rest : List Action} (hs : s.schedule = .write a v :: rest)
    (ha : a &&& 0xFFC#12 = 0x00C#12) : step s = State.writeCmd { s with schedule := rest } v := by
  have hcmd : target a = .reg .cmd := (mask_eq_address_iff a .cmd).1 ha
  rw [step_write hs, hostWrite_reg hcmd, State.writeReg]

/-- Settles O3: the address reaches CMD, which runs the command its word decodes to. -/
theorem stepRunsTheDecodedCommand : Obligations.StepRunsTheDecodedCommand := by
  intro s a w rest i hs ha hw
  rw [step_write_cmd hs ha, writeCmd_of_decode hw]

/-- An error records its code beside MULTI or, after another, sets MULTI, and sets IRQ_STATUS bit 5
(60_exceptions.md R701). -/
theorem raiseError_eq (s : State) (c : ErrCode) :
    s.raiseError c = { s with
      err := if s.err.code = .none then { code := c, multi := s.err.multi } else { code := s.err.code, multi := true },
      irqStatus := s.irqStatus ||| 0x20#7 } := rfl

/-- Settles O4: an illegal word decodes to no command, so the write only raises ILLEGAL_CMD. -/
theorem illegalWordOnlyRecordsAnError : Obligations.IllegalWordOnlyRecordsAnError := by
  intro s a w rest hs ha hw
  have hillegal : ¬ ∃ i, decode w = .ok i := by
    rw [exists_decode_eq_ok_iff, not_and_or]
    exact hw
  rw [step_write_cmd hs ha, writeCmd_illegal hillegal, raiseError_eq]

end Sys2Proof.Machine

/-! The field GF(2^8): what its tables hold, the laws of the table arithmetic, and its agreement with the product of
polynomials (40_gf_arith.md section 1). -/

namespace Sys2Proof.Machine

/-! ### Conditional sums over GF(2) -/

/-- Two sums that add their terms under one condition. -/
theorem ite_xor_xor {w : Nat} (b : Bool) (p q c d : BitVec w) :
    (if b then (p ^^^ q) ^^^ (c ^^^ d) else p ^^^ q) = (if b then p ^^^ c else p) ^^^ (if b then q ^^^ d else q) := by
  cases b
  · rfl
  · simp only [if_true]
    ac_rfl

/-- Two sums that add one term each under its own condition: in characteristic 2 the term remains when one does. -/
theorem ite_bne_xor {w : Nat} (b b' : Bool) (p q c : BitVec w) :
    (if b ^^ b' then (p ^^^ q) ^^^ c else p ^^^ q) = (if b then p ^^^ c else p) ^^^ (if b' then q ^^^ c else q) := by
  have hboth : (p ^^^ c) ^^^ (q ^^^ c) = p ^^^ q := calc
    (p ^^^ c) ^^^ (q ^^^ c) = (p ^^^ q) ^^^ (c ^^^ c) := by ac_rfl
    _ = p ^^^ q := by rw [BitVec.xor_self, BitVec.xor_zero]
  cases b <;> cases b'
  · rfl
  · exact BitVec.xor_assoc p q c
  · simp only [Bool.xor_false, if_true, Bool.false_eq_true, if_false]
    ac_rfl
  · exact hboth.symm

/-! ### Addition (40_gf_arith.md R301) -/

theorem gfAdd_comm (a b : Byte) : gfAdd a b = gfAdd b a := BitVec.xor_comm a b

theorem gfAdd_assoc (a b c : Byte) : gfAdd (gfAdd a b) c = gfAdd a (gfAdd b c) := BitVec.xor_assoc a b c

theorem gfAdd_left_comm (a b c : Byte) : gfAdd a (gfAdd b c) = gfAdd b (gfAdd a c) := by
  rw [← gfAdd_assoc, gfAdd_comm a, gfAdd_assoc]

@[simp] theorem gfAdd_zero (a : Byte) : gfAdd a 0#8 = a := BitVec.xor_zero

@[simp] theorem zero_gfAdd (a : Byte) : gfAdd 0#8 a = a := BitVec.zero_xor

@[simp] theorem gfAdd_self (a : Byte) : gfAdd a a = 0#8 := BitVec.xor_self

/-- Every element is its own additive inverse. -/
@[simp] theorem gfAdd_cancel_left (a b : Byte) : gfAdd a (gfAdd a b) = b := by
  rw [← gfAdd_assoc, gfAdd_self, zero_gfAdd]

theorem gfAdd_add_add_comm (a b c d : Byte) : gfAdd (gfAdd a b) (gfAdd c d) = gfAdd (gfAdd a c) (gfAdd b d) := by
  rw [gfAdd_assoc, gfAdd_left_comm b, ← gfAdd_assoc]

/-! ### The tables (40_gf_arith.md R302) -/

/-- Multiplication by x modulo 0x11D (40_gf_arith.md R302). -/
def xtime (v : Byte) : Byte := if v.getLsbD 7 then (v <<< 1) ^^^ 0x1D#8 else v <<< 1

@[simp] theorem xtime_zero : xtime 0#8 = 0#8 := rfl

theorem xtime_gfAdd (a b : Byte) : xtime (gfAdd a b) = gfAdd (xtime a) (xtime b) := by
  have hshift : (a ^^^ b) <<< 1 = a <<< 1 ^^^ b <<< 1 := BitVec.shiftLeft_xor_distrib ..
  simp only [xtime, gfAdd, BitVec.getLsbD_xor, hshift]
  rw [ite_bne_xor]

theorem gfExp_zero : gfExp 0 = 1#8 := by decide

theorem gfExp_one : gfExp 1 = alpha := by decide

theorem gfExp_mod (e : Nat) : gfExp (e % 255) = gfExp e := by simp only [gfExp, Nat.mod_mod]

theorem gfExp_congr {m n : Nat} (h : m % 255 = n % 255) : gfExp m = gfExp n := by simp only [gfExp, h]

/-- The printed EXP rows follow the recurrence, and close into a cycle of 255. -/
theorem expTable_recurrence : ∀ i < 255, gfExp (i + 1) = xtime (gfExp i) := by decide +kernel

theorem expTable_ne_zero : ∀ i < 255, gfExp i ≠ 0#8 := by decide +kernel

theorem logTable_expTable : ∀ i < 255, gfLog (gfExp i) = i := by decide +kernel

theorem expTable_logTable : ∀ a : Byte, a ≠ 0#8 → gfLog a < 255 ∧ gfExp (gfLog a) = a := by decide +kernel

theorem gfExp_succ (n : Nat) : gfExp (n + 1) = xtime (gfExp n) := by
  rw [← gfExp_mod n, ← expTable_recurrence _ (Nat.mod_lt n (by omega))]
  exact gfExp_congr (by omega)

theorem gfExp_ne_zero (n : Nat) : gfExp n ≠ 0#8 := by
  rw [← gfExp_mod n]
  exact expTable_ne_zero _ (Nat.mod_lt n (by omega))

theorem gfLog_gfExp (n : Nat) : gfLog (gfExp n) = n % 255 := by
  rw [← gfExp_mod n]
  exact logTable_expTable _ (Nat.mod_lt n (by omega))

theorem gfLog_lt {a : Byte} (h : a ≠ 0#8) : gfLog a < 255 := (expTable_logTable a h).1

theorem gfExp_gfLog {a : Byte} (h : a ≠ 0#8) : gfExp (gfLog a) = a := (expTable_logTable a h).2

/-- A byte is 0 or a power of alpha: the case split of every law below. -/
theorem eq_zero_or_eq_gfExp (a : Byte) : a = 0#8 ∨ ∃ n, a = gfExp n := by
  by_cases h : a = 0#8
  · exact .inl h
  · exact .inr ⟨gfLog a, (gfExp_gfLog h).symm⟩

/-! ### Multiplication by the tables (40_gf_arith.md R303) -/

@[simp] theorem gfMul_zero (a : Byte) : gfMul a 0#8 = 0#8 := by simp [gfMul]

@[simp] theorem zero_gfMul (a : Byte) : gfMul 0#8 a = 0#8 := by simp [gfMul]

/-- Multiplication adds exponents. -/
theorem gfMul_gfExp (m n : Nat) : gfMul (gfExp m) (gfExp n) = gfExp (m + n) := by
  simp only [gfMul, gfExp_ne_zero, or_self, if_false, gfLog_gfExp]
  exact gfExp_congr (Nat.add_mod m n 255).symm

theorem gfMul_comm (a b : Byte) : gfMul a b = gfMul b a := by
  simp only [gfMul, or_comm, Nat.add_comm]

theorem gfMul_assoc (a b c : Byte) : gfMul (gfMul a b) c = gfMul a (gfMul b c) := by
  obtain rfl | ⟨i, rfl⟩ := eq_zero_or_eq_gfExp a
  · simp
  obtain rfl | ⟨j, rfl⟩ := eq_zero_or_eq_gfExp b
  · simp
  obtain rfl | ⟨k, rfl⟩ := eq_zero_or_eq_gfExp c
  · simp
  simp only [gfMul_gfExp, Nat.add_assoc]

@[simp] theorem gfMul_one (a : Byte) : gfMul a 1#8 = a := by
  obtain rfl | ⟨n, rfl⟩ := eq_zero_or_eq_gfExp a
  · simp
  · rw [← gfExp_zero, gfMul_gfExp, Nat.add_zero]

@[simp] theorem one_gfMul (a : Byte) : gfMul 1#8 a = a := by rw [gfMul_comm, gfMul_one]

/-- One more power of alpha is one more `xtime`. -/
theorem gfMul_gfExp_succ (a : Byte) (n : Nat) : gfMul a (gfExp (n + 1)) = xtime (gfMul a (gfExp n)) := by
  obtain rfl | ⟨m, rfl⟩ := eq_zero_or_eq_gfExp a
  · simp
  · simp only [gfMul_gfExp, ← gfExp_succ, Nat.add_assoc]

/-- Multiplication by a power of alpha is additive because `xtime` is. -/
theorem gfAdd_gfMul (a b c : Byte) : gfMul (gfAdd a b) c = gfAdd (gfMul a c) (gfMul b c) := by
  obtain rfl | ⟨n, rfl⟩ := eq_zero_or_eq_gfExp c
  · simp
  induction n with
  | zero => simp [gfExp_zero]
  | succ n ih => simp only [gfMul_gfExp_succ, ih, xtime_gfAdd]

theorem gfMul_gfAdd (a b c : Byte) : gfMul a (gfAdd b c) = gfAdd (gfMul a b) (gfMul a c) := by
  simp only [gfMul_comm a, gfAdd_gfMul]

/-! ### Inverse and quotient (40_gf_arith.md R304, R305) -/

theorem gfMul_gfInverse {a : Byte} (h : a ≠ 0#8) : gfMul a (gfInverse a) = 1#8 := by
  have hlog := gfLog_lt h
  calc gfMul a (gfInverse a) = gfMul (gfExp (gfLog a)) (gfExp (255 - gfLog a)) := by rw [gfExp_gfLog h, gfInverse]
    _ = gfExp 0 := by rw [gfMul_gfExp]; exact gfExp_congr (by omega)
    _ = 1#8 := gfExp_zero

theorem gfMul_right_cancel {a b c : Byte} (hc : c ≠ 0#8) (h : gfMul a c = gfMul b c) : a = b := by
  have hinv := congrArg (gfMul · (gfInverse c)) h
  simpa only [gfMul_assoc, gfMul_gfInverse hc, gfMul_one] using hinv

theorem gfDivide_gfMul {b : Byte} (a : Byte) (hb : b ≠ 0#8) : gfMul (gfDivide a b) b = a := by
  by_cases ha : a = 0#8
  · simp [gfDivide, ha]
  have hlog := gfLog_lt hb
  calc gfMul (gfDivide a b) b
      = gfMul (gfExp (gfLog a + 255 - gfLog b)) (gfExp (gfLog b)) := by rw [gfDivide, if_neg ha, gfExp_gfLog hb]
    _ = gfExp (gfLog a) := by rw [gfMul_gfExp]; exact gfExp_congr (by omega)
    _ = a := gfExp_gfLog ha

/-! ### Powers (40_gf_arith.md R306) -/

@[simp] theorem gfPower_zero (a : Byte) : gfPower a 0 = 1#8 := rfl

theorem zero_gfPower {e : Nat} (h : e ≠ 0) : gfPower 0#8 e = 0#8 := by simp [gfPower, h]

/-- A power multiplies exponents. -/
theorem gfExp_gfPower (n e : Nat) : gfPower (gfExp n) e = gfExp (n * e) := by
  by_cases he : e = 0
  · rw [he, gfPower_zero, Nat.mul_zero, gfExp_zero]
  · simp only [gfPower, he, gfExp_ne_zero, if_false, gfLog_gfExp]
    exact gfExp_congr (Nat.mod_mul_mod n e 255)

theorem gfPower_succ (a : Byte) (e : Nat) : gfPower a (e + 1) = gfMul (gfPower a e) a := by
  obtain rfl | ⟨n, rfl⟩ := eq_zero_or_eq_gfExp a
  · rw [zero_gfPower e.succ_ne_zero, gfMul_zero]
  · simp only [gfExp_gfPower, gfMul_gfExp, Nat.mul_succ]

theorem gfPower_add_255 {a : Byte} (ha : a ≠ 0#8) (e : Nat) : gfPower a (e + 255) = gfPower a e := by
  rw [← gfExp_gfLog ha, gfExp_gfPower, gfExp_gfPower]
  exact gfExp_congr (by rw [Nat.mul_add, Nat.add_mul_mod_self_right])

theorem gfPower_255 {a : Byte} (ha : a ≠ 0#8) : gfPower a 255 = 1#8 := gfPower_add_255 ha 0

theorem gfPower_two (a : Byte) : gfPower a 2 = gfMul a a := by
  rw [gfPower_succ, gfPower_succ, gfPower_zero, one_gfMul]

/-- Squaring is additive: the two mixed products are equal and cancel. -/
theorem gfAdd_gfPower_two (a b : Byte) : gfPower (gfAdd a b) 2 = gfAdd (gfPower a 2) (gfPower b 2) := by
  simp only [gfPower_two, gfAdd_gfMul, gfMul_gfAdd, gfMul_comm b a, gfAdd_assoc, gfAdd_cancel_left]

/-! ### Linear maps over GF(2)

A map of bit vectors that preserves XOR is fixed by its values at the powers of x. -/

/-- The map preserves addition over GF(2). -/
def IsXorLinear {v w : Nat} (f : BitVec v → BitVec w) : Prop := ∀ a b, f (a ^^^ b) = f a ^^^ f b

theorem IsXorLinear.map_zero {v w : Nat} {f : BitVec v → BitVec w} (hf : IsXorLinear f) : f 0#v = 0#w := by
  simpa using hf 0#v 0#v

/-- Induction over the sums of powers of x. -/
theorem xor_twoPow_induction {w : Nat} {P : BitVec w → Prop} (hzero : P 0#w) (hpow : ∀ k < w, P (BitVec.twoPow w k))
    (hxor : ∀ a b, P a → P b → P (a ^^^ b)) (a : BitVec w) : P a := by
  suffices h : ∀ k ≤ w, ∀ a : BitVec w, (∀ i, k ≤ i → a.getLsbD i = false) → P a from
    h w (le_refl w) a fun i hi => BitVec.getLsbD_of_ge a i hi
  intro k
  induction k with
  | zero =>
    intro _ a ha
    have : a = 0#w := BitVec.eq_of_getLsbD_eq fun i _ => by rw [ha i i.zero_le, BitVec.getLsbD_zero]
    rwa [this]
  | succ k ih =>
    intro hk a ha
    by_cases hbit : a.getLsbD k = true
    · have hlow : P (a ^^^ BitVec.twoPow w k) := ih (by omega) _ fun i hi => by
        rw [BitVec.getLsbD_xor, BitVec.getLsbD_twoPow]
        obtain rfl | hlt := Nat.eq_or_lt_of_le hi
        · simp [hbit, show k < w by omega]
        · simp [ha i hlt, hlt.ne]
      have hsum := hxor _ _ hlow (hpow k (by omega))
      rwa [BitVec.xor_assoc, BitVec.xor_self, BitVec.xor_zero] at hsum
    · refine ih (by omega) a fun i hi => ?_
      obtain rfl | hlt := Nat.eq_or_lt_of_le hi
      · simpa using hbit
      · exact ha i hlt

theorem IsXorLinear.ext {v w : Nat} {f g : BitVec v → BitVec w} (hf : IsXorLinear f) (hg : IsXorLinear g)
    (h : ∀ k < v, f (BitVec.twoPow v k) = g (BitVec.twoPow v k)) (a : BitVec v) : f a = g a := by
  induction a using xor_twoPow_induction with
  | hzero => rw [hf.map_zero, hg.map_zero]
  | hpow k hk => exact h k hk
  | hxor a b ha hb => rw [hf, hg, ha, hb]

/-- A fold whose step preserves XOR preserves XOR. -/
theorem foldl_xor {α : Type} {w : Nat} {f g h : BitVec w → α → BitVec w} (l : List α)
    (hstep : ∀ x p q, f (p ^^^ q) x = g p x ^^^ h q x) (p q : BitVec w) :
    l.foldl f (p ^^^ q) = l.foldl g p ^^^ l.foldl h q := by
  induction l generalizing p q with
  | nil => rfl
  | cons x l ih => rw [List.foldl_cons, List.foldl_cons, List.foldl_cons, hstep, ih]

/-! ### The product of polynomials (40_gf_arith.md R300, R303) -/

theorem polyProduct_left_isXorLinear (b : Byte) : IsXorLinear (polyProduct · b) := by
  intro a a'
  refine foldl_xor (List.range 8) (fun i p q => ?_) 0#15 0#15
  rw [← ite_xor_xor, BitVec.setWidth_xor, BitVec.shiftLeft_xor_distrib]

theorem polyProduct_right_isXorLinear (a : Byte) : IsXorLinear (polyProduct a) := by
  intro b b'
  refine foldl_xor (List.range 8) (fun i p q => ?_) 0#15 0#15
  rw [BitVec.getLsbD_xor, ite_bne_xor]

theorem polyReduce_isXorLinear : IsXorLinear polyReduce := by
  intro p q
  simp only [polyReduce, ← BitVec.setWidth_xor]
  congr 1
  refine foldl_xor (List.range 7) (fun i p q => ?_) p q
  rw [BitVec.getLsbD_xor, ite_bne_xor]

theorem gfProduct_left_isXorLinear (b : Byte) : IsXorLinear (gfProduct · b) := fun a a' => by
  simp only [gfProduct, polyProduct_left_isXorLinear b a a', polyReduce_isXorLinear _ _]

theorem gfProduct_right_isXorLinear (a : Byte) : IsXorLinear (gfProduct a) := fun b b' => by
  simp only [gfProduct, polyProduct_right_isXorLinear a b b', polyReduce_isXorLinear _ _]

theorem gfProduct_twoPow : ∀ i < 8, ∀ j < 8,
    gfProduct (BitVec.twoPow 8 i) (BitVec.twoPow 8 j) = gfMul (BitVec.twoPow 8 i) (BitVec.twoPow 8 j) := by
  decide +kernel

theorem gfMul_left_isXorLinear (b : Byte) : IsXorLinear (gfMul · b) := fun a a' => gfAdd_gfMul a a' b

theorem gfMul_right_isXorLinear (a : Byte) : IsXorLinear (gfMul a) := gfMul_gfAdd a

/-- The tables compute the reduced product of polynomials: both are linear in each operand, and they agree at the 64
products of powers of x. -/
theorem gfProduct_eq_gfMul (a b : Byte) : gfProduct a b = gfMul a b := by
  refine (gfProduct_left_isXorLinear b).ext (gfMul_left_isXorLinear b) (fun i hi => ?_) a
  exact (gfProduct_right_isXorLinear _).ext (gfMul_right_isXorLinear _) (gfProduct_twoPow i hi) b

theorem gfRepeated_eq_gfPower (a : Byte) (e : Nat) : gfRepeated a e = gfPower a e := by
  induction e with
  | zero => rfl
  | succ e ih => rw [gfRepeated, gfPower_succ, ih, gfProduct_eq_gfMul]

theorem gfRepeated_alpha (e : Nat) : gfRepeated alpha e = gfExp e := by
  rw [gfRepeated_eq_gfPower, ← gfExp_one, gfExp_gfPower, Nat.one_mul]

end Sys2Proof.Machine

/-! Polynomials over GF(2^8): Horner's rule computes the value of a polynomial (40_gf_arith.md R317), and a codeword has
the sixteen roots of the generator (41_rs_codec.md R352, R354). -/

namespace Sys2Proof.Machine

/-! ### Sums -/

theorem gfSum_concat (l : List Byte) (a : Byte) : gfSum (l ++ [a]) = gfAdd (gfSum l) a := by
  simp [gfSum]

theorem gfSum_map_gfMul (l : List Byte) (x : Byte) : gfSum (l.map (gfMul · x)) = gfMul (gfSum l) x := by
  induction l using List.reverseRecOn with
  | nil => exact (zero_gfMul x).symm
  | append_singleton l a ih => rw [List.map_append, List.map_singleton, gfSum_concat, gfSum_concat, gfAdd_gfMul, ih]

/-! ### Horner's rule -/

@[simp] theorem polyEval_nil (x : Byte) : polyEval [] x = 0#8 := rfl

theorem polyEval_concat (c : List Byte) (a x : Byte) : polyEval (c ++ [a]) x = gfAdd (gfMul (polyEval c x) x) a := by
  simp [polyEval]

theorem polyEval_singleton (a x : Byte) : polyEval [a] x = a := by simp [polyEval]

/-- Coefficients put before d are worth `x^d.length` each. -/
theorem polyEval_append (c d : List Byte) (x : Byte) :
    polyEval (c ++ d) x = gfAdd (gfMul (polyEval c x) (gfPower x d.length)) (polyEval d x) := by
  induction d using List.reverseRecOn with
  | nil => simp
  | append_singleton d a ih =>
    rw [← List.append_assoc, polyEval_concat, ih, polyEval_concat, List.length_append, List.length_singleton,
      gfPower_succ, gfAdd_gfMul, gfMul_assoc, gfAdd_assoc]

theorem polyEval_cons (a : Byte) (c : List Byte) (x : Byte) :
    polyEval (a :: c) x = gfAdd (gfMul a (gfPower x c.length)) (polyEval c x) := by
  rw [← List.singleton_append, polyEval_append, polyEval_singleton]

theorem polyEval_map_gfMul (v : Byte) (c : List Byte) (x : Byte) :
    polyEval (c.map (gfMul v)) x = gfMul v (polyEval c x) := by
  induction c with
  | nil => exact (gfMul_zero v).symm
  | cons a c ih => rw [List.map_cons, polyEval_cons, polyEval_cons, List.length_map, ih, gfMul_gfAdd, gfMul_assoc]

theorem polyEval_zipWith_gfAdd {c d : List Byte} (h : c.length = d.length) (x : Byte) :
    polyEval (List.zipWith gfAdd c d) x = gfAdd (polyEval c x) (polyEval d x) := by
  induction c generalizing d with
  | nil => rw [List.zipWith_nil_left, List.eq_nil_of_length_eq_zero h.symm, polyEval_nil, gfAdd_zero]
  | cons a c ih =>
    obtain _ | ⟨b, d⟩ := d
    · cases h
    have hlen : c.length = d.length := Nat.succ.inj h
    rw [List.zipWith_cons_cons, polyEval_cons, polyEval_cons, polyEval_cons, ih hlen, List.length_zipWith, hlen,
      Nat.min_self, gfAdd_gfMul, gfAdd_add_add_comm]

/-! ### The value of a polynomial -/

/-- The term of `c[p]` in the value at x (41_rs_codec.md R351). -/
def polyTerm (c : List Byte) (x : Byte) (p : Nat) : Byte :=
  gfProduct (c.getD p 0#8) (gfRepeated x (c.length - 1 - p))

theorem polyValue_eq_gfSum (c : List Byte) (x : Byte) :
    polyValue c x = gfSum ((List.range c.length).map (polyTerm c x)) :=
  rfl

theorem polyTerm_concat_of_lt {c : List Byte} {p : Nat} (a x : Byte) (hp : p < c.length) :
    polyTerm (c ++ [a]) x p = gfMul (polyTerm c x p) x := by
  have hpower : (c ++ [a]).length - 1 - p = (c.length - 1 - p) + 1 := by
    rw [List.length_append, List.length_singleton]
    omega
  simp only [polyTerm, List.getD_append _ _ _ _ hp, hpower, gfRepeated, gfProduct_eq_gfMul, gfMul_assoc]

theorem polyTerm_concat_last (c : List Byte) (a x : Byte) : polyTerm (c ++ [a]) x c.length = a := by
  simp [polyTerm, gfRepeated, gfProduct_eq_gfMul]

/-- Each coefficient of c moves up one power, and a becomes the constant term. -/
theorem polyValue_concat (c : List Byte) (a x : Byte) : polyValue (c ++ [a]) x = gfAdd (gfMul (polyValue c x) x) a := by
  have hmoved : (List.range c.length).map (polyTerm (c ++ [a]) x) =
      ((List.range c.length).map (polyTerm c x)).map (gfMul · x) := by
    rw [List.map_map]
    exact List.map_congr_left fun p hp => polyTerm_concat_of_lt a x (List.mem_range.mp hp)
  rw [polyValue_eq_gfSum, List.length_append, List.length_singleton, List.range_succ, List.map_append,
    List.map_singleton, gfSum_concat, polyTerm_concat_last, hmoved, gfSum_map_gfMul, polyValue_eq_gfSum]

/-- Horner's rule computes the value (40_gf_arith.md R317). -/
theorem polyValue_eq_polyEval (c : List Byte) (x : Byte) : polyValue c x = polyEval c x := by
  induction c using List.reverseRecOn with
  | nil => rfl
  | append_singleton c a ih => rw [polyValue_concat, polyEval_concat, ih]

theorem polyEval_at_zero (c : List Byte) (a : Byte) : polyEval (c ++ [a]) 0#8 = a := by
  rw [polyEval_concat, gfMul_zero, zero_gfAdd]

theorem polyEval_at_one (c : List Byte) : polyEval c 1#8 = gfSum c := by
  simp only [polyEval, gfSum, gfMul_one]

/-! ### The roots of a codeword (41_rs_codec.md R352 to R354) -/

/-- alpha^0..alpha^15 are roots of the monic generator: the lower coefficients are worth x^16 there. -/
theorem polyEval_rsGenerator_tail : ∀ j < 16, polyEval rsGenerator.tail (gfExp j) = gfPower (gfExp j) 16 := by
  decide +kernel

theorem rsGenerator_tail_length : rsGenerator.tail.length = 16 := rfl

theorem rsShift_cons (r m : Byte) (rem : List Byte) :
    rsShift (r :: rem) m = List.zipWith gfAdd (rem ++ [0#8]) (rsGenerator.tail.map (gfMul (gfAdd m r))) := rfl

/-- One turn of the division register multiplies its value at a root by the root and adds the byte times x^16. -/
theorem polyEval_rsShift {rem : List Byte} {x : Byte} (m : Byte) (hlen : rem.length = 16)
    (hroot : polyEval rsGenerator.tail x = gfPower x 16) :
    polyEval (rsShift rem m) x = gfAdd (gfMul (polyEval rem x) x) (gfMul m (gfPower x 16)) := by
  obtain _ | ⟨r, rem⟩ := rem
  · cases hlen
  have htail : rem.length = 15 := Nat.succ.inj hlen
  have hshift : polyEval (rem ++ [0#8]) x = gfMul (polyEval rem x) x := by rw [polyEval_concat, gfAdd_zero]
  have hrem : gfMul (polyEval (r :: rem) x) x = gfAdd (gfMul r (gfPower x 16)) (gfMul (polyEval rem x) x) := by
    rw [polyEval_cons, htail, gfAdd_gfMul, gfMul_assoc, ← gfPower_succ]
  have hsame : (rem ++ [0#8]).length = (rsGenerator.tail.map (gfMul (gfAdd m r))).length := by
    rw [List.length_append, List.length_singleton, htail, List.length_map, rsGenerator_tail_length]
  calc polyEval (rsShift (r :: rem) m) x
      = gfAdd (gfMul (polyEval rem x) x) (gfMul (gfAdd m r) (gfPower x 16)) := by
        rw [rsShift_cons, polyEval_zipWith_gfAdd hsame, polyEval_map_gfMul, hroot, hshift]
    _ = gfAdd (gfMul (polyEval (r :: rem) x) x) (gfMul m (gfPower x 16)) := by
        rw [hrem, gfAdd_gfMul, gfAdd_comm (gfMul m _), gfAdd_left_comm, ← gfAdd_assoc]

theorem polyEval_replicate_zero (n : Nat) (x : Byte) : polyEval (List.replicate n 0#8) x = 0#8 := by
  induction n with
  | zero => rfl
  | succ n ih => rw [List.replicate_succ, polyEval_cons, zero_gfMul, zero_gfAdd, ih]

/-- The parity is the remainder of the message times x^16: both have the same value at a root of the generator. -/
theorem polyEval_rsParity {x : Byte} (m : List Byte) (hroot : polyEval rsGenerator.tail x = gfPower x 16) :
    polyEval (rsParity m) x = gfMul (polyEval m x) (gfPower x 16) := by
  induction m using List.reverseRecOn with
  | nil => rw [polyEval_nil, zero_gfMul]; exact polyEval_replicate_zero 16 x
  | append_singleton m a ih =>
    have hshift : rsParity (m ++ [a]) = rsShift (rsParity m) a := by simp [rsParity]
    rw [hshift, polyEval_rsShift a (rsParity_length m) hroot, ih, polyEval_concat, gfAdd_gfMul, gfMul_assoc,
      gfMul_assoc, gfMul_comm x]

theorem polyEval_rsEncode (m : List Byte) {j : Nat} (hj : j < 16) : polyEval (rsEncode m) (gfExp j) = 0#8 := by
  rw [rsEncode, polyEval_append, rsParity_length, polyEval_rsParity m (polyEval_rsGenerator_tail j hj), gfAdd_self]

end Sys2Proof.Machine

/-! The commands of the field unit (40_gf_arith.md section 2): each writes its result to GF_R and changes nothing else;
a command that has no result writes 0 and records GF_DOMAIN. -/

namespace Sys2Proof.Machine

/-! ### What each command answers -/

theorem exec_gfAdd (s : State) : exec .gfAdd s = .next { s with gfR := gfAdd s.gfA s.gfB } := rfl

theorem exec_gfMul (s : State) : exec .gfMul s = .next { s with gfR := gfMul s.gfA s.gfB } := rfl

theorem exec_gfPow (s : State) : exec .gfPow s = .next { s with gfR := gfPower s.gfA s.gfB.toNat } := rfl

theorem exec_gfExp (s : State) : exec .gfExp s = .next { s with gfR := gfExp s.gfA.toNat } := rfl

theorem exec_polyEval (s : State) : exec .polyEval s = .next { s with gfR := polyEval (s.bufBytes .cw) s.gfA } := rfl

theorem exec_gfDiv_domain {s : State} (h : s.gfB = 0#8) :
    exec .gfDiv s = .next (State.raiseError { s with gfR := 0#8 } .gfDomain) := congrArg Host.Outcome.next (if_pos h)

theorem exec_gfDiv {s : State} (h : s.gfB ≠ 0#8) : exec .gfDiv s = .next { s with gfR := gfDivide s.gfA s.gfB } :=
  congrArg Host.Outcome.next (if_neg h)

theorem exec_gfInv_domain {s : State} (h : s.gfA = 0#8) :
    exec .gfInv s = .next (State.raiseError { s with gfR := 0#8 } .gfDomain) := congrArg Host.Outcome.next (if_pos h)

theorem exec_gfInv {s : State} (h : s.gfA ≠ 0#8) : exec .gfInv s = .next { s with gfR := gfInverse s.gfA } :=
  congrArg Host.Outcome.next (if_neg h)

theorem exec_gfLog_domain {s : State} (h : s.gfA = 0#8) :
    exec .gfLog s = .next (State.raiseError { s with gfR := 0#8 } .gfDomain) := congrArg Host.Outcome.next (if_pos h)

theorem exec_gfLog {s : State} (h : s.gfA ≠ 0#8) :
    exec .gfLog s = .next { s with gfR := BitVec.ofNat 8 (gfLog s.gfA) } := congrArg Host.Outcome.next (if_neg h)

/-! ### The tables and the laws -/

/-- Settles O6, by one pass over the printed rows. -/
theorem tablesFollowTheirRecurrence : Obligations.TablesFollowTheirRecurrence :=
  ⟨gfExp_zero, fun i _ => gfExp_succ i, fun i hi => logTable_expTable i (by omega), fun e => (gfExp_mod e).symm⟩

/-- Settles O7, from the law that multiplication adds exponents and from the additivity of `xtime`. -/
theorem fieldLawsHold : Obligations.FieldLawsHold :=
  ⟨fun a b => ⟨gfAdd_comm a b, gfMul_comm a b⟩,
    fun a b c => ⟨gfAdd_assoc a b c, gfMul_assoc a b c, gfMul_gfAdd a b c⟩,
    fun a => ⟨gfMul_one a, gfMul_zero a⟩,
    fun _ ha => ⟨gfPower_255 ha, fun e _ => gfPower_add_255 ha e⟩,
    gfAdd_gfPower_two⟩

/-! ### The commands -/

/-- Settles O8: the sum is the XOR, which a byte cancels with itself. -/
theorem gfAddWritesTheSum : Obligations.GfAddWritesTheSum := by
  refine ⟨rfl, fun s => ⟨exec_gfAdd s, fun h => ?_, fun h => ?_⟩⟩
  · rw [h, BitVec.xor_self]
  · rw [h, BitVec.xor_zero]

/-- Settles O9: the tables compute the reduced product of polynomials. -/
theorem gfMulWritesTheReducedProduct : Obligations.GfMulWritesTheReducedProduct := by
  simp only [Obligations.GfMulWritesTheReducedProduct, gfProduct_eq_gfMul]
  refine ⟨rfl, fun s => ⟨exec_gfMul s, ?_, fun h => ?_, fun h => ?_⟩⟩
  · rintro (h | h)
    · rw [h, zero_gfMul]
    · rw [h, gfMul_zero]
  · rw [h, one_gfMul]
  · rw [h, gfMul_one]

/-- Settles O10: the quotient is unique because a factor that is not 0 cancels. -/
theorem gfDivWritesTheQuotient : Obligations.GfDivWritesTheQuotient := by
  simp only [Obligations.GfDivWritesTheQuotient, gfProduct_eq_gfMul]
  refine ⟨rfl, fun s => ⟨exec_gfDiv_domain, fun hb => ?_⟩⟩
  have hquotient := gfDivide_gfMul s.gfA hb
  have hunique : ∀ q, gfMul q s.gfB = s.gfA → q = gfDivide s.gfA s.gfB := fun q hq =>
    gfMul_right_cancel hb (hq.trans hquotient.symm)
  refine ⟨gfDivide s.gfA s.gfB, exec_gfDiv hb, hquotient, hunique, fun ha => ?_, fun hab => ?_⟩
  · exact (hunique 0#8 (by rw [zero_gfMul, ha])).symm
  · exact (hunique 1#8 (by rw [one_gfMul, hab])).symm

/-- Settles O11: the inverse is unique because A, which is not 0, cancels. -/
theorem gfInvWritesTheInverse : Obligations.GfInvWritesTheInverse := by
  simp only [Obligations.GfInvWritesTheInverse, gfProduct_eq_gfMul]
  refine ⟨rfl, fun s => ⟨exec_gfInv_domain, fun ha => ?_⟩⟩
  have hinverse := gfMul_gfInverse ha
  refine ⟨gfInverse s.gfA, exec_gfInv ha, hinverse, fun b hb => gfMul_right_cancel ha ?_⟩
  rw [gfMul_comm b, gfMul_comm (gfInverse _), hb, hinverse]

/-- Settles O12: the table power is the repeated product. -/
theorem gfPowWritesThePower : Obligations.GfPowWritesThePower := by
  simp only [Obligations.GfPowWritesThePower, gfRepeated_eq_gfPower]
  refine ⟨rfl, fun s => ⟨exec_gfPow s, fun hb => ?_, fun ha hb => ?_, fun ha hb => ?_⟩⟩
  · rw [hb]; exact gfPower_zero s.gfA
  · rw [ha, zero_gfPower fun h => hb (BitVec.eq_of_toNat_eq h)]
  · rw [hb]; exact gfPower_255 ha

/-- Settles O13: EXP holds the powers of alpha. -/
theorem gfExpWritesThePowerOfAlpha : Obligations.GfExpWritesThePowerOfAlpha := by
  simp only [Obligations.GfExpWritesThePowerOfAlpha, gfRepeated_alpha, gfExp_mod]
  refine ⟨rfl, fun s => ⟨exec_gfExp s, gfExp_ne_zero _, ?_⟩⟩
  rintro (h | h) <;> rw [h] <;> exact gfExp_zero

/-- Settles O14: the exponent is unique because LOG undoes EXP on 0..254. -/
theorem gfLogWritesTheLogarithm : Obligations.GfLogWritesTheLogarithm := by
  simp only [Obligations.GfLogWritesTheLogarithm, gfRepeated_alpha]
  refine ⟨rfl, fun s => ⟨exec_gfLog_domain, fun ha => ?_⟩⟩
  have hlt := gfLog_lt ha
  have hlog : (BitVec.ofNat 8 (gfLog s.gfA)).toNat = gfLog s.gfA := by
    rw [BitVec.toNat_ofNat, Nat.mod_eq_of_lt (by omega)]
  refine ⟨BitVec.ofNat 8 (gfLog s.gfA), exec_gfLog ha, ?_, ?_, fun e he h => ?_, fun h => ?_⟩
  · omega
  · rw [hlog, gfExp_gfLog ha]
  · rw [hlog, ← h, gfLog_gfExp, Nat.mod_eq_of_lt (by omega)]
  · rw [h, ← gfExp_zero, gfLog_gfExp]

theorem bufBytes_cw (s : State) : s.bufBytes .cw = (List.range 63).map (s.bufByte .cw) ++ [s.bufByte .cw 63] := by
  rw [State.bufBytes, show Buf.cw.size = 63 + 1 from rfl, List.range_succ, List.map_append, List.map_singleton]

/-- Settles O15: Horner's rule computes the value, and a codeword has the generator's roots. -/
theorem polyEvalWritesTheValue : Obligations.PolyEvalWritesTheValue := by
  simp only [Obligations.PolyEvalWritesTheValue, polyValue_eq_polyEval, gfRepeated_alpha]
  refine ⟨rfl, fun s => ⟨exec_polyEval s, fun h => ?_, fun h => ?_, fun m j _ hj hcw h => ?_⟩⟩
  · rw [h, bufBytes_cw, polyEval_at_zero]
  · rw [h, polyEval_at_one]
  · rw [h, hcw, polyEval_rsEncode m (by omega)]

end Sys2Proof.Machine

/-! The Reed-Solomon code (41_rs_codec.md section 1): the generator polynomial, encoding as a linear map onto words that
vanish at the sixteen roots, and what one changed byte does to the value of a polynomial. -/

namespace Sys2Proof.Machine

/-! ### The generator (41_rs_codec.md R352) -/

theorem generatorProduct_eq_rsGenerator : generatorProduct = rsGenerator := by decide +kernel

theorem rsGenerator_ne_zero : ∀ g ∈ rsGenerator, g ≠ 0#8 := by decide

/-- Settles O16, by expanding the product of the sixteen factors. -/
theorem generatorIsTheProductOfItsRoots : Obligations.GeneratorIsTheProductOfItsRoots :=
  ⟨generatorProduct_eq_rsGenerator.symm, generatorProduct_eq_rsGenerator, rsGenerator_ne_zero⟩

/-! ### Sums and multiples of words -/

theorem zipWith_gfAdd_interchange (a b c d : List Byte) :
    List.zipWith gfAdd (List.zipWith gfAdd a b) (List.zipWith gfAdd c d) =
      List.zipWith gfAdd (List.zipWith gfAdd a c) (List.zipWith gfAdd b d) := by
  refine List.ext_getElem ?_ fun i _ _ => ?_
  · simp only [List.length_zipWith]
    omega
  · simp only [List.getElem_zipWith, gfAdd_add_add_comm]

theorem map_gfMul_gfAdd (u v : Byte) (l : List Byte) :
    l.map (gfMul (gfAdd u v)) = List.zipWith gfAdd (l.map (gfMul u)) (l.map (gfMul v)) := by
  rw [List.zipWith_map, List.zipWith_self]
  exact List.map_congr_left fun a _ => gfAdd_gfMul u v a

theorem map_gfMul_zipWith_gfAdd (v : Byte) (a b : List Byte) :
    (List.zipWith gfAdd a b).map (gfMul v) = List.zipWith gfAdd (a.map (gfMul v)) (b.map (gfMul v)) := by
  simp only [List.map_zipWith, List.zipWith_map, gfMul_gfAdd]

/-! ### Encoding is linear (41_rs_codec.md R353, R354) -/

/-- One turn of the division register on the sum of two registers and the sum of two bytes. -/
theorem rsShift_gfAdd {a b : List Byte} (ha : a.length = 16) (hb : b.length = 16) (u v : Byte) :
    rsShift (List.zipWith gfAdd a b) (gfAdd u v) = List.zipWith gfAdd (rsShift a u) (rsShift b v) := by
  obtain ⟨x, a, rfl⟩ := List.exists_cons_of_length_eq_add_one ha
  obtain ⟨y, b, rfl⟩ := List.exists_cons_of_length_eq_add_one hb
  have hab : a.length = b.length := Nat.succ.inj (ha.trans hb.symm)
  have hshift : List.zipWith gfAdd a b ++ [0#8] = List.zipWith gfAdd (a ++ [0#8]) (b ++ [0#8]) := by
    rw [List.zipWith_append hab, List.zipWith_cons_cons, gfAdd_self, List.zipWith_nil_left]
  rw [List.zipWith_cons_cons, rsShift_cons, rsShift_cons, rsShift_cons, gfAdd_add_add_comm, map_gfMul_gfAdd, hshift,
    zipWith_gfAdd_interchange]

/-- One turn of the division register on a multiple of a register and of a byte. -/
theorem rsShift_map_gfMul {a : List Byte} (ha : a.length = 16) (v u : Byte) :
    rsShift (a.map (gfMul v)) (gfMul v u) = (rsShift a u).map (gfMul v) := by
  obtain ⟨x, a, rfl⟩ := List.exists_cons_of_length_eq_add_one ha
  have hshift : a.map (gfMul v) ++ [0#8] = (a ++ [0#8]).map (gfMul v) := by
    rw [List.map_append, List.map_singleton, gfMul_zero]
  have hfeedback : rsGenerator.tail.map (gfMul (gfMul v (gfAdd u x))) =
      (rsGenerator.tail.map (gfMul (gfAdd u x))).map (gfMul v) := by
    rw [List.map_map]
    exact List.map_congr_left fun g _ => gfMul_assoc ..
  rw [List.map_cons, rsShift_cons, rsShift_cons, ← gfMul_gfAdd, hshift, hfeedback, map_gfMul_zipWith_gfAdd]

theorem foldl_rsShift_gfAdd {a b : List Byte} (hab : a.length = b.length) {p q : List Byte} (hp : p.length = 16)
    (hq : q.length = 16) : (List.zipWith gfAdd a b).foldl rsShift (List.zipWith gfAdd p q) =
      List.zipWith gfAdd (a.foldl rsShift p) (b.foldl rsShift q) := by
  induction a generalizing b p q with
  | nil => rw [List.eq_nil_of_length_eq_zero hab.symm]; rfl
  | cons u a ih =>
    obtain ⟨v, b, rfl⟩ := List.exists_cons_of_length_eq_add_one hab.symm
    rw [List.zipWith_cons_cons, List.foldl_cons, rsShift_gfAdd hp hq,
      ih (Nat.succ.inj hab) (rsShift_length hp) (rsShift_length hq), List.foldl_cons, List.foldl_cons]

theorem foldl_rsShift_map_gfMul (v : Byte) (a : List Byte) {p : List Byte} (hp : p.length = 16) :
    (a.map (gfMul v)).foldl rsShift (p.map (gfMul v)) = (a.foldl rsShift p).map (gfMul v) := by
  induction a generalizing p with
  | nil => rfl
  | cons u a ih => rw [List.map_cons, List.foldl_cons, rsShift_map_gfMul hp, ih (rsShift_length hp), List.foldl_cons]

theorem rsParity_zipWith_gfAdd {a b : List Byte} (hab : a.length = b.length) :
    rsParity (List.zipWith gfAdd a b) = List.zipWith gfAdd (rsParity a) (rsParity b) :=
  foldl_rsShift_gfAdd hab (p := List.replicate 16 0#8) (q := List.replicate 16 0#8) rfl rfl

theorem rsParity_map_gfMul (v : Byte) (a : List Byte) : rsParity (a.map (gfMul v)) = (rsParity a).map (gfMul v) := by
  have hstart : (List.replicate 16 0#8).map (gfMul v) = List.replicate 16 0#8 := by
    rw [List.map_replicate, gfMul_zero]
  have hfold := foldl_rsShift_map_gfMul v a (List.length_replicate (n := 16) (a := 0#8))
  rwa [hstart] at hfold

theorem rsEncode_zipWith_gfAdd {a b : List Byte} (hab : a.length = b.length) :
    rsEncode (List.zipWith gfAdd a b) = List.zipWith gfAdd (rsEncode a) (rsEncode b) := by
  rw [rsEncode, rsParity_zipWith_gfAdd hab, ← List.zipWith_append hab, rsEncode, rsEncode]

theorem rsEncode_map_gfMul (v : Byte) (a : List Byte) : rsEncode (a.map (gfMul v)) = (rsEncode a).map (gfMul v) := by
  rw [rsEncode, rsParity_map_gfMul, ← List.map_append, rsEncode]

theorem rsEncode_take {m : List Byte} (hm : m.length = 48) : (rsEncode m).take 48 = m := by
  rw [rsEncode, ← hm, List.take_left]

/-- Settles O17: the parity is the remainder at every root, and each turn of the division register is linear. -/
theorem encodedMessageIsASystematicCodeword : Obligations.EncodedMessageIsASystematicCodeword := by
  simp only [Obligations.EncodedMessageIsASystematicCodeword, polyValue_eq_polyEval, gfRepeated_alpha]
  refine ⟨fun m hm => ⟨?_, rsEncode_take hm, fun j hj => polyEval_rsEncode m (by omega)⟩, fun a b ha hb => ?_, ?_⟩
  · rw [rsEncode_length_eq, hm]
  · exact rsEncode_zipWith_gfAdd (ha.trans hb.symm)
  · exact fun v m _ => rsEncode_map_gfMul v m

/-! ### Two messages written out (41_rs_codec.md R370) -/

theorem rsParity_replicate_zero (n : Nat) : rsParity (List.replicate n 0#8) = List.replicate 16 0#8 := by
  have hturn : rsShift (List.replicate 16 0#8) 0#8 = List.replicate 16 0#8 := by decide
  induction n with
  | zero => rfl
  | succ n ih => rw [List.replicate_succ, rsParity, List.foldl_cons, hturn, ← rsParity, ih]

/-- The parity of the message 1 is the generator without its leading coefficient. -/
theorem rsParity_replicate_zero_one (n : Nat) : rsParity (List.replicate n 0#8 ++ [1#8]) = rsGenerator.tail := by
  have hturn : rsShift (List.replicate 16 0#8) 1#8 = rsGenerator.tail := by decide
  rw [rsParity, List.foldl_append, ← rsParity, rsParity_replicate_zero]
  exact hturn

end Sys2Proof.Machine

/-! The commands of the codec (41_rs_codec.md section 3): what each writes to its buffers and to RS_RESULT, and what it
leaves unchanged. -/

namespace Sys2Proof.Machine

/-! ### Syndromes (41_rs_codec.md R360) -/

theorem syndromes_getD (r : List Byte) {j : Nat} (hj : j < 16) : (syndromes r).getD j 0#8 = polyEval r (gfExp j) := by
  simp [syndromes, syndrome, hj]

theorem syndromes_all_zero_iff (r : List Byte) :
    (syndromes r).all (· == 0#8) = true ↔ ∀ j < 16, polyEval r (gfExp j) = 0#8 := by
  simp [syndromes, syndrome]

theorem syndromes_rsEncode_all_zero (m : List Byte) : (syndromes (rsEncode m)).all (· == 0#8) = true :=
  (syndromes_all_zero_iff _).2 fun _ hj => polyEval_rsEncode m hj

/-- The word with v added to its byte at position p. -/
def corruptAt (c : List Byte) (p : Nat) (v : Byte) : List Byte := c.set p (gfAdd (c.getD p 0#8) v)

/-- Adding v to the coefficient at position p adds v times the power of that position. -/
theorem polyEval_corruptAt {c : List Byte} {p : Nat} (hp : p < c.length) (v x : Byte) :
    polyEval (corruptAt c p v) x = gfAdd (polyEval c x) (gfMul v (gfPower x (c.length - 1 - p))) := by
  unfold corruptAt
  induction c generalizing p with
  | nil => cases hp
  | cons a c ih =>
    cases p with
    | zero =>
      have hsum : gfMul (gfAdd a v) (gfPower x c.length) =
          gfAdd (gfMul a (gfPower x c.length)) (gfMul v (gfPower x c.length)) := gfAdd_gfMul ..
      rw [List.set_cons_zero, List.getD_cons_zero, polyEval_cons, polyEval_cons, hsum, List.length_cons,
        Nat.add_sub_cancel, Nat.sub_zero, gfAdd_assoc, gfAdd_comm (gfMul v _), ← gfAdd_assoc]
    | succ p =>
      have hpower : (a :: c).length - 1 - (p + 1) = c.length - 1 - p := by
        rw [List.length_cons]
        omega
      rw [List.set_cons_succ, List.getD_cons_succ, polyEval_cons, polyEval_cons, List.length_set,
        ih (Nat.lt_of_succ_lt_succ hp), hpower, gfAdd_assoc]

/-- The value at a root of a codeword with one error: the error times its locator's power (41_rs_codec.md R371). -/
theorem polyEval_corruptAt_rsEncode {m : List Byte} (hm : m.length = 48) {p j : Nat} (hp : p < 64) (hj : j < 16)
    (v : Byte) : polyEval (corruptAt (rsEncode m) p v) (gfExp j) = gfMul v (gfExp (j * (63 - p))) := by
  have hlen : (rsEncode m).length = 64 := by rw [rsEncode_length_eq, hm]
  rw [polyEval_corruptAt (by omega), hlen, polyEval_rsEncode m hj, zero_gfAdd, gfExp_gfPower]

/-! ### Writing and reading buffers -/

theorem bufBytes_getD (s : State) {b : Buf} {i : Nat} (hi : i < b.size) :
    (s.bufBytes b).getD i 0#8 = s.bufByte b i := by
  simp [State.bufBytes, hi]

theorem bufBytes_setBuf_same {s : State} {b : Buf} {l : List Byte} (hwf : s.mem.wf = true) (hl : l.length = b.size) :
    (s.setBuf b l).bufBytes b = l := by
  refine List.ext_getElem ?_ fun i hi hil => ?_
  · rw [State.bufBytes_length, hl]
  · rw [State.bufBytes_length] at hi
    rw [← List.getD_eq_getElem _ 0#8, bufBytes_getD _ hi, State.bufByte_setBuf_same hwf hi hil,
      List.getD_eq_getElem _ _ hil]

theorem bufBytes_setBuf_other {s : State} {b c : Buf} {l : List Byte} (h : c ≠ b) :
    (s.setBuf b l).bufBytes c = s.bufBytes c :=
  List.map_congr_left fun _ _ => State.bufByte_setBuf_other h

/-- A byte outside every buffer that P allows reads as before. -/
theorem Memory.WrittenIn.read_outside {P : Buf → Prop} {m m' : Memory} (h : m.WrittenIn P m') {a : Nat}
    (ha : ∀ b, P b → a < b.base ∨ b.base + b.size ≤ a) : m'.read a = m.read a := by
  induction h with
  | same => rfl
  | run _ hb hlow hhigh ih =>
    rw [Memory.read_writeBytes_other, ih]
    obtain h | h := ha _ hb <;> omega

theorem Memory.WrittenIn.sameOutside {P : Buf → Prop} {s t : State} (h : s.mem.WrittenIn P t.mem) {bs : List Buf}
    (hbs : ∀ b, P b → b ∈ bs) : s.sameOutside t bs :=
  fun _ ha => h.read_outside fun b hb => ha b (hbs b hb)

theorem setBuf_sameOutside (s : State) (b : Buf) (l : List Byte) : s.sameOutside (s.setBuf b l) [b] :=
  fun _ ha => State.read_setBuf_outside (ha b (List.mem_singleton.2 rfl))

theorem setBuf_eq (s : State) (b : Buf) (l : List Byte) : s.setBuf b l = { s with mem := (s.setBuf b l).mem } := rfl

/-! ### What each command answers -/

theorem exec_rsEncode (s : State) : exec .rsEncode s = .next (s.setBuf .cw (rsEncode (s.bufBytes .msg))) := rfl

theorem exec_rsSyndrome (s : State) : exec .rsSyndrome s = .next (s.setBuf .syn (syndromes (s.bufBytes .cw))) := rfl

theorem exec_rsDecode (s : State) : exec .rsDecode s =
    .next (State.commitDecode (s.setBuf .syn (syndromes (s.bufBytes .cw))) (rsDecode (s.bufBytes .cw))) := rfl

/-! ### RS_ENCODE (41_rs_codec.md R370) -/

theorem rsEncode_bufBytes_length (s : State) : (rsEncode (s.bufBytes .msg)).length = Buf.cw.size := by
  rw [rsEncode_length_eq, State.bufBytes_length]
  rfl

theorem bufBytes_rsEncode {s : State} (hwf : s.mem.wf = true) :
    (s.setBuf .cw (rsEncode (s.bufBytes .msg))).bufBytes .cw = rsEncode (s.bufBytes .msg) :=
  bufBytes_setBuf_same hwf (rsEncode_bufBytes_length s)

theorem bufBytes_eq_map {s : State} {b : Buf} {f : Nat → Byte} (h : ∀ p < b.size, s.bufByte b p = f p) :
    s.bufBytes b = (List.range b.size).map f :=
  List.map_congr_left fun p hp => h p (List.mem_range.1 hp)

theorem bufBytes_msg_of_zero {s : State} (h : ∀ p < 48, s.bufByte .msg p = 0#8) :
    s.bufBytes .msg = List.replicate 48 0#8 :=
  bufBytes_eq_map (b := .msg) (f := fun _ => 0#8) h

theorem bufBytes_msg_of_one {s : State} (h : ∀ p < 48, s.bufByte .msg p = if p = 47 then 1#8 else 0#8) :
    s.bufBytes .msg = List.replicate 47 0#8 ++ [1#8] :=
  (bufBytes_eq_map (b := .msg) (f := fun p => if p = 47 then 1#8 else 0#8) h).trans (by decide)

/-- Settles O18: CW holds the encoding of MSG, whose bytes are MSG and its parity. -/
theorem rsEncodeWritesTheCodeword : Obligations.RsEncodeWritesTheCodeword := by
  simp only [Obligations.RsEncodeWritesTheCodeword, polyValue_eq_polyEval, gfRepeated_alpha]
  refine ⟨rfl, fun s hwf => ⟨_, exec_rsEncode s, setBuf_eq s _ _, State.setBuf_wf hwf, setBuf_sameOutside s _ _, ?_⟩⟩
  have hcw := bufBytes_rsEncode hwf
  have hlen : (s.bufBytes .msg).length = 48 := State.bufBytes_length s .msg
  have hbyte : ∀ p < 64, (s.setBuf .cw (rsEncode (s.bufBytes .msg))).bufByte .cw p =
      (rsEncode (s.bufBytes .msg)).getD p 0#8 := fun p hp => by rw [← bufBytes_getD _ hp, hcw]
  refine ⟨hcw, fun p hp => ?_, fun j hj => ?_, fun hzero p hp => ?_, fun hone i hi => ?_⟩
  · rw [hbyte p (by omega), rsEncode, List.getD_append _ _ _ _ (by omega), bufBytes_getD _ hp]
  · rw [hcw, polyEval_rsEncode _ (by omega)]
  · rw [hbyte p hp, bufBytes_msg_of_zero hzero, rsEncode, rsParity_replicate_zero, List.replicate_append_replicate,
      List.getD_replicate _ hp]
  · rw [hbyte _ (by omega), rsEncode, List.getD_append_right _ _ _ _ (by omega), hlen, Nat.add_sub_cancel_left,
      bufBytes_msg_of_one hone, rsParity_replicate_zero_one]
    rfl

/-! ### RS_SYNDROME (41_rs_codec.md R371) -/

theorem bufByte_setBuf_syndromes {s : State} (hwf : s.mem.wf = true) (r : List Byte) {j : Nat} (hj : j < 16) :
    (s.setBuf .syn (syndromes r)).bufByte .syn j = polyEval r (gfExp j) := by
  rw [State.bufByte_setBuf_same hwf hj (by rwa [syndromes_length]), syndromes_getD r hj]

/-- Settles O19: the value of a sum is the sum of the values, and the codeword's part is 0. -/
theorem rsSyndromeWritesTheSyndromes : Obligations.RsSyndromeWritesTheSyndromes := by
  simp only [Obligations.RsSyndromeWritesTheSyndromes, polyValue_eq_polyEval, gfRepeated_alpha, gfProduct_eq_gfMul]
  refine ⟨rfl, fun s hwf => ⟨_, exec_rsSyndrome s, setBuf_eq s _ _, State.setBuf_wf hwf, setBuf_sameOutside s _ _, ?_⟩⟩
  refine ⟨fun j hj => bufByte_setBuf_syndromes hwf _ hj, fun m p v hm hp hcw j hj => ?_⟩
  rw [bufByte_setBuf_syndromes hwf _ hj, hcw]
  exact polyEval_corruptAt_rsEncode hm hp hj v

/-! ### RS_DECODE (41_rs_codec.md R372) -/

/-- The lengths of what a successful decode of a 64-byte word answers. -/
theorem rsDecode_success_length {r data cw : List Byte} {count : Nat} (hr : r.length = 64)
    (h : rsDecode r = .success data cw count) : cw.length = 64 ∧ data = cw.take 48 := by
  obtain ⟨-, hclean⟩ | ⟨f, -, hfail⟩ | ⟨r', -, -, -, hcorrect, -, hsuccess⟩ := rsDecode_cases r
  · rw [hclean] at h
    cases h
    exact ⟨hr, rfl⟩
  · rw [hfail] at h
    cases h
  · rw [hsuccess] at h
    cases h
    exact ⟨(correctErrors_length hcorrect).trans hr, rfl⟩

/-- The memory after a success: CW, then MSG. -/
theorem commitDecode_success_mem (s : State) (data cw : List Byte) (count : Nat) :
    (s.commitDecode (.success data cw count)).mem = ((s.setBuf .cw cw).setBuf .msg data).mem := by
  simp only [State.commitDecode]

/-- The memory after a failure: zeros in MSG. -/
theorem commitDecode_uncorrectable_mem (s : State) (reason : FailReason) :
    (s.commitDecode (.uncorrectable reason)).mem = (s.setBuf .msg (List.replicate 48 0#8)).mem := by
  simp only [State.commitDecode]

theorem commitDecode_success_bufBytes {s : State} (hwf : s.mem.wf = true) {data cw : List Byte} (count : Nat)
    (hcw : cw.length = Buf.cw.size) (hdata : data.length = Buf.msg.size) :
    (s.commitDecode (.success data cw count)).bufBytes .cw = cw ∧
      (s.commitDecode (.success data cw count)).bufBytes .msg = data := by
  simp only [State.bufBytes_congr (commitDecode_success_mem s data cw count)]
  constructor
  · rw [bufBytes_setBuf_other (by decide), bufBytes_setBuf_same hwf hcw]
  · exact bufBytes_setBuf_same (State.setBuf_wf hwf) hdata

theorem commitDecode_uncorrectable_bufBytes {s : State} (hwf : s.mem.wf = true) (reason : FailReason) :
    (s.commitDecode (.uncorrectable reason)).bufBytes .cw = s.bufBytes .cw ∧
      (s.commitDecode (.uncorrectable reason)).bufBytes .msg = List.replicate 48 0#8 := by
  simp only [State.bufBytes_congr (commitDecode_uncorrectable_mem s reason)]
  exact ⟨bufBytes_setBuf_other (by decide), bufBytes_setBuf_same hwf List.length_replicate⟩

/-- The commit writes CW and MSG only, so SYN stays. -/
theorem commitDecode_bufByte_syn (s : State) (o : RsOutcome) (j : Nat) :
    (s.commitDecode o).bufByte .syn j = s.bufByte .syn j := by
  cases o with
  | success data cw count =>
    rw [State.bufByte_congr (commitDecode_success_mem s data cw count), State.bufByte_setBuf_other (by decide),
      State.bufByte_setBuf_other (by decide)]
  | uncorrectable reason =>
    rw [State.bufByte_congr (commitDecode_uncorrectable_mem s reason), State.bufByte_setBuf_other (by decide)]

theorem commitDecode_eq (s : State) (o : RsOutcome) :
    s.commitDecode o = { s with mem := (s.commitDecode o).mem, rsResult := RsResult.ofOutcome o } := by
  cases o <;> simp only [State.commitDecode, State.setBuf, RsResult.ofOutcome]

/-- The bytes of SYN after RS_DECODE. -/
theorem bufByte_syn_rsDecode {s : State} (hwf : s.mem.wf = true) (r : List Byte) (o : RsOutcome) {j : Nat}
    (hj : j < 16) :
    ((s.setBuf .syn (syndromes r)).commitDecode o).bufByte .syn j = polyEval r (gfExp j) := by
  rw [commitDecode_bufByte_syn, bufByte_setBuf_syndromes hwf r hj]

theorem rsDecode_memory (s : State) {t : State} (h : exec .rsDecode s = .next t) :
    s.mem.WrittenIn (CommandWrites .rsDecode) t.mem :=
  (exec_memory h).resolve_left (by decide)

/-- Settles O20, by the two outcomes of the decoder. -/
theorem rsDecodeReportsTheOutcome : Obligations.RsDecodeReportsTheOutcome := by
  simp only [Obligations.RsDecodeReportsTheOutcome, polyValue_eq_polyEval, gfRepeated_alpha]
  refine ⟨rfl, fun s hwf => ⟨_, exec_rsDecode s, ?_, ?_, ?_, fun j hj => bufByte_syn_rsDecode hwf _ _ hj, ?_, ?_⟩⟩
  · rw [commitDecode_eq]
    rfl
  · exact (rsDecode_memory s (exec_rsDecode s)).wf hwf
  · refine (rsDecode_memory s (exec_rsDecode s)).sameOutside fun b hb => ?_
    obtain rfl | rfl | rfl := hb <;> decide
  · intro data cw count h
    obtain ⟨hcw, hdata⟩ := rsDecode_success_length (State.bufBytes_length s .cw) h
    have hlen : data.length = Buf.msg.size := by
      rw [hdata, List.length_take, hcw]
      rfl
    obtain ⟨hcwBytes, hmsgBytes⟩ := commitDecode_success_bufBytes
      (State.setBuf_wf (b := .syn) (l := syndromes (s.bufBytes .cw)) hwf) count hcw hlen
    rw [h]
    exact ⟨hcwBytes, hmsgBytes, rfl⟩
  · intro reason h
    obtain ⟨hcw, hmsg⟩ := commitDecode_uncorrectable_bufBytes
      (State.setBuf_wf (b := .syn) (l := syndromes (s.bufBytes .cw)) hwf) reason
    rw [h]
    exact ⟨hcw.trans (bufBytes_setBuf_other (by decide)), hmsg, rfl⟩

/-! ### RS_ENCODE then RS_DECODE (41_rs_codec.md R375) -/

theorem rsDecode_rsEncode {m : List Byte} (hm : m.length = 48) :
    rsDecode (rsEncode m) = .success m (rsEncode m) 0 := by
  simp only [rsDecode, syndromes_rsEncode_all_zero, if_true, RsOutcome.ofWord, rsEncode_take hm]

/-- Settles O22: the encoded word has no syndrome, so the decoder answers it as it is. -/
theorem encodeThenDecodeIsClean : Obligations.EncodeThenDecodeIsClean := by
  intro s hwf
  have hlen : (s.bufBytes .msg).length = 48 := State.bufBytes_length s .msg
  have hcw := bufBytes_rsEncode hwf
  have hwf' : (s.setBuf .cw (rsEncode (s.bufBytes .msg))).mem.wf = true := State.setBuf_wf hwf
  refine ⟨_, _, exec_rsEncode s, exec_rsDecode _, ?_⟩
  rw [hcw, rsDecode_rsEncode hlen]
  obtain ⟨hcw', hmsg⟩ := commitDecode_success_bufBytes
    (State.setBuf_wf (b := .syn) (l := syndromes (rsEncode (s.bufBytes .msg))) hwf') 0 (rsEncode_bufBytes_length s) hlen
  refine ⟨hcw', hmsg, rfl, fun j hj => ?_⟩
  rw [bufByte_syn_rsDecode hwf' _ _ hj, polyEval_rsEncode _ hj]

end Sys2Proof.Machine

/-! The decoder (41_rs_codec.md section 2): a success is a codeword at the counted distance, and one corrupted byte is
corrected. -/

namespace Sys2Proof.Machine

/-! ### Corrected words -/

@[simp] theorem corruptAt_length (c : List Byte) (p : Nat) (v : Byte) : (corruptAt c p v).length = c.length :=
  List.length_set ..

theorem getD_corruptAt_same {c : List Byte} {p : Nat} (hp : p < c.length) (v : Byte) :
    (corruptAt c p v).getD p 0#8 = gfAdd (c.getD p 0#8) v := by
  rw [corruptAt, List.getD_eq_getElem?_getD, List.getElem?_set_self hp, Option.getD_some]

theorem getD_corruptAt_other (c : List Byte) {p q : Nat} (h : p ≠ q) (v : Byte) :
    (corruptAt c p v).getD q 0#8 = c.getD q 0#8 := by
  rw [corruptAt, List.getD_eq_getElem?_getD, List.getElem?_set_ne h, List.getD_eq_getElem?_getD]

/-- Adding the error again removes it. -/
theorem corruptAt_corruptAt {w : List Byte} {p : Nat} (hp : p < w.length) (v : Byte) :
    corruptAt (corruptAt w p v) p v = w := by
  have hbyte : gfAdd (gfAdd (w.getD p 0#8) v) v = w[p] := by
    rw [gfAdd_assoc, gfAdd_self, gfAdd_zero, List.getD_eq_getElem _ _ hp]
  rw [corruptAt, getD_corruptAt_same hp, hbyte, corruptAt, List.set_set, List.set_getElem_self]

theorem gfAdd_ne_self {v : Byte} (a : Byte) (hv : v ≠ 0#8) : gfAdd a v ≠ a := fun h =>
  hv (by rw [← gfAdd_cancel_left a v, h, gfAdd_self])

/-- Forney's formula never answers the error value 0 (41_rs_codec.md R364). -/
theorem errorValue_ne_zero {om lam : List Byte} {len d : Nat} {e : Byte} (h : errorValue om lam len d = some e) :
    e ≠ 0#8 := by
  simp only [errorValue] at h
  split at h
  · cases h
  · split at h
    next => cases h
    next he =>
      cases h
      exact he

/-- One correction, then the others. -/
theorem correctErrors_cons_some {om lam : List Byte} {len d : Nat} {ds : List Nat} {r r' : List Byte}
    (h : correctErrors om lam len (d :: ds) r = some r') :
    ∃ e, e ≠ 0#8 ∧ correctErrors om lam len ds (corruptAt r (63 - d) e) = some r' := by
  rw [correctErrors] at h
  split at h
  next => cases h
  next e he => exact ⟨e, errorValue_ne_zero he, h⟩

/-- The bytes that correction changes are those of the error degrees. -/
theorem correctErrors_changes_iff {om lam : List Byte} {len : Nat} {degrees : List Nat} {r r' : List Byte}
    (h : correctErrors om lam len degrees r = some r') (hr : r.length = 64) (hlt : ∀ d ∈ degrees, d < 64)
    (hnodup : degrees.Nodup) {p : Nat} (hp : p < 64) : r'.getD p 0#8 ≠ r.getD p 0#8 ↔ 63 - p ∈ degrees := by
  induction degrees generalizing r with
  | nil =>
    rw [correctErrors, Option.some.injEq] at h
    simp [h]
  | cons d ds ih =>
    obtain ⟨e, he, hrest⟩ := correctErrors_cons_some h
    obtain ⟨hd, hds⟩ := List.forall_mem_cons.1 hlt
    obtain ⟨hnotin, hnodup⟩ := List.nodup_cons.1 hnodup
    have hchanges := ih hrest (by rw [corruptAt_length, hr]) hds hnodup
    rw [List.mem_cons]
    by_cases hpd : 63 - d = p
    · have hdp : 63 - p = d := by omega
      rw [hdp, ← hpd] at hchanges
      rw [hdp, ← hpd, not_ne_iff.1 (mt hchanges.1 hnotin), getD_corruptAt_same (by omega)]
      exact iff_of_true (gfAdd_ne_self _ he) (.inl rfl)
    · rw [getD_corruptAt_other r hpd] at hchanges
      rw [hchanges, or_iff_right (by omega)]

/-! ### The number of changed bytes -/

theorem mem_chienSearch {lam : List Byte} {d : Nat} :
    d ∈ chienSearch lam ↔ d < 64 ∧ locatorEval lam (inverseLocator d) = 0#8 := by
  simp [chienSearch]

theorem chienSearch_nodup (lam : List Byte) : (chienSearch lam).Nodup := List.nodup_range.filter _

/-- Counting positions and counting degrees is the same: position p has the degree 63 - p (41_rs_codec.md R351). -/
theorem countP_range_reflect (P : Nat → Bool) :
    (List.range 64).countP (fun p => P (63 - p)) = (List.range 64).countP P := by
  have hreverse : (List.range 64).map (fun p => 63 - p) = (List.range 64).reverse := by decide
  rw [← List.countP_reverse (p := P), ← hreverse, List.countP_map]
  rfl

theorem countP_mem_chienSearch (lam : List Byte) :
    (List.range 64).countP (fun d => decide (d ∈ chienSearch lam)) = (chienSearch lam).length := by
  rw [chienSearch, ← List.countP_eq_length_filter]
  refine List.countP_congr fun d hd => ?_
  rw [decide_eq_true_iff, List.mem_filter, and_iff_right hd]

/-- Correction at the roots of the locator changes one byte for each. -/
theorem byteDistance_correctErrors {om lam : List Byte} {len : Nat} {r r' : List Byte}
    (h : correctErrors om lam len (chienSearch lam) r = some r') (hr : r.length = 64) :
    byteDistance r' r = (chienSearch lam).length := by
  rw [← countP_mem_chienSearch, ← countP_range_reflect, byteDistance]
  refine List.countP_congr fun p hp => ?_
  rw [bne_iff_ne, decide_eq_true_iff]
  exact correctErrors_changes_iff h hr (fun d hd => (mem_chienSearch.1 hd).1) (chienSearch_nodup lam)
    (List.mem_range.1 hp)

theorem byteDistance_self (r : List Byte) : byteDistance r r = 0 := by
  simp [byteDistance]

/-- Settles O21: the decoder checks the syndromes of its word, and each root of the locator changed one byte. -/
theorem decodeSuccessReturnsACodewordAndItsDistance : Obligations.DecodeSuccessReturnsACodewordAndItsDistance := by
  simp only [Obligations.DecodeSuccessReturnsACodewordAndItsDistance, polyValue_eq_polyEval, gfRepeated_alpha]
  intro r hr
  obtain ⟨hzero, hclean⟩ | ⟨f, hf, hfail⟩ | ⟨r', -, hlen, hcount, hcorrect, hzero, hsuccess⟩ := rsDecode_cases r
  · rw [hclean]
    refine ⟨fun data cw count h => ?_, fun _ h => nomatch h⟩
    cases h
    exact ⟨hr, rfl, Nat.zero_le _, (byteDistance_self r).symm,
      fun j hj => (syndromes_all_zero_iff r).1 hzero j (by omega)⟩
  · rw [hfail]
    refine ⟨fun _ _ _ h => (nomatch h), fun reason h => ?_⟩
    cases h
    exact hf
  · rw [hsuccess]
    refine ⟨fun data cw count h => ?_, fun _ h => nomatch h⟩
    cases h
    exact ⟨(correctErrors_length hcorrect).trans hr, rfl, hlen,
      hcount.symm.trans (byteDistance_correctErrors hcorrect hr).symm,
      fun j hj => (syndromes_all_zero_iff r').1 hzero j (by omega)⟩

end Sys2Proof.Machine

/-! One corrupted byte (41_rs_codec.md R366 at distance 1). The syndromes are a geometric sequence, the iteration finds
the linear locator 1 + X·x, its one root is the error degree, and Forney's formula gives the error. -/

namespace Sys2Proof.Machine

/-! ### Quotients and powers -/

theorem gfDivide_eq_of_gfMul {a b q : Byte} (hb : b ≠ 0#8) (h : gfMul q b = a) : gfDivide a b = q :=
  gfMul_right_cancel hb ((gfDivide_gfMul a hb).trans h.symm)

theorem gfExp_eq_one_iff (n : Nat) : gfExp n = 1#8 ↔ n % 255 = 0 := by
  constructor
  · intro h
    rw [← gfLog_gfExp n, h, ← gfExp_zero, gfLog_gfExp]
  · exact fun h => (gfExp_congr h).trans gfExp_zero

theorem gfAdd_eq_zero_iff {a b : Byte} : gfAdd a b = 0#8 ↔ a = b := by
  constructor
  · intro h
    rw [← gfAdd_cancel_left a b, h, gfAdd_zero]
  · rintro rfl
    exact gfAdd_self a

/-! ### The turns of the iteration (41_rs_codec.md R361) -/

theorem bmTurn_of_zero {syn : List Byte} {st : BmState} {r : Nat} (h : bmDelta syn st r = 0#8) :
    bmTurn syn st r = { st with m := st.m + 1 } := by
  simp [bmTurn, h]

theorem bmTurn_of_longer {syn : List Byte} {st : BmState} {r : Nat} (h : bmDelta syn st r ≠ 0#8)
    (hlen : 2 * st.len ≤ r) : bmTurn syn st r =
      { lam := bmUpdate st (bmDelta syn st r), prev := st.lam, len := r + 1 - st.len, m := 1, b := bmDelta syn st r } := by
  simp [bmTurn, h, hlen]

theorem bmTurn_of_same_length {syn : List Byte} {st : BmState} {r : Nat} (h : bmDelta syn st r ≠ 0#8)
    (hlen : ¬ 2 * st.len ≤ r) :
    bmTurn syn st r = { st with lam := bmUpdate st (bmDelta syn st r), m := st.m + 1 } := by
  simp [bmTurn, h, hlen]

/-! ### The linear locator -/

/-- The locator 1 + u·x. -/
def linearLocator (u : Byte) : List Byte := 1#8 :: u :: List.replicate 15 0#8

/-- The variables of the iteration with a linear locator found at turn 0, where the discrepancy was v. -/
def linearState (u v : Byte) (m : Nat) : BmState :=
  { lam := linearLocator u, prev := bmStart.lam, len := 1, m := m, b := v }

theorem locatorEval_linearLocator (u y : Byte) : locatorEval (linearLocator u) y = gfAdd (gfMul u y) 1#8 := by
  have hreverse : (linearLocator u).reverse = List.replicate 15 0#8 ++ [u] ++ [1#8] := rfl
  rw [locatorEval, hreverse, polyEval_concat, polyEval_concat, polyEval_replicate_zero, zero_gfMul, zero_gfAdd]

theorem locatorDerivative_linearLocator (u y : Byte) : locatorDerivative (linearLocator u) 1 y = u := by
  have hodd : (List.range (1 + 1)).filter (fun i => i % 2 = 1) = [1] := by decide
  have hcoeff : (linearLocator u).getD 1 0#8 = u := rfl
  rw [locatorDerivative, hodd, List.map_singleton, hcoeff, Nat.sub_self, gfPower_zero, gfMul_one]
  exact zero_gfAdd u

/-- Adding a multiple of x to a linear locator. -/
theorem bmUpdate_linear {st : BmState} {u : Byte} (hlam : st.lam = linearLocator u) (hprev : st.prev = bmStart.lam)
    (hm : st.m = 1) (delta : Byte) : bmUpdate st delta = linearLocator (gfAdd u (gfDivide delta st.b)) := by
  have hshifted : (List.replicate 1 0#8 ++ bmStart.lam.map (gfMul (gfDivide delta st.b))).take 17 =
      0#8 :: gfDivide delta st.b :: List.replicate 15 0#8 := by
    simp [bmStart]
  rw [bmUpdate, hlam, hprev, hm, hshifted, linearLocator]
  simp [linearLocator]

theorem bmDelta_start (syn : List Byte) : bmDelta syn bmStart 0 = syn.getD 0 0#8 := gfAdd_zero _

theorem bmDelta_linearState (syn : List Byte) (u v : Byte) (m r : Nat) :
    bmDelta syn (linearState u v m) r = gfAdd (syn.getD r 0#8) (gfMul u (syn.getD (r - 1) 0#8)) :=
  congrArg (gfAdd _) (zero_gfAdd _)

/-! ### Geometric syndromes -/

/-- The syndromes of one error of value v with the locator x (41_rs_codec.md R371): v, v·x, v·x^2, ... -/
def GeometricSyndromes (syn : List Byte) (v x : Byte) : Prop := ∀ j < 16, syn.getD j 0#8 = gfMul v (gfPower x j)

theorem GeometricSyndromes.zero {syn : List Byte} {v x : Byte} (h : GeometricSyndromes syn v x) :
    syn.getD 0 0#8 = v := by
  rw [h 0 (by decide), gfPower_zero, gfMul_one]

theorem GeometricSyndromes.succ {syn : List Byte} {v x : Byte} (h : GeometricSyndromes syn v x) {j : Nat}
    (hj : j + 1 < 16) : syn.getD (j + 1) 0#8 = gfMul x (syn.getD j 0#8) := by
  rw [h _ hj, h j (by omega), gfPower_succ, gfMul_comm x, gfMul_assoc]

/-- Turn 0 finds the error value. -/
theorem GeometricSyndromes.bmTurn_zero {syn : List Byte} {v x : Byte} (h : GeometricSyndromes syn v x) (hv : v ≠ 0#8) :
    bmTurn syn bmStart 0 = linearState v v 1 := by
  have hdelta : bmDelta syn bmStart 0 = v := (bmDelta_start syn).trans h.zero
  have hquotient : gfDivide v bmStart.b = v := gfDivide_eq_of_gfMul (by decide) (gfMul_one v)
  rw [bmTurn_of_longer (by rwa [hdelta]) (by decide), hdelta, bmUpdate_linear (u := 0#8) rfl rfl rfl, hquotient,
    zero_gfAdd]
  rfl

/-- Turn 1 finds the locator, whether or not it is the error value by chance. -/
theorem GeometricSyndromes.bmTurn_one {syn : List Byte} {v x : Byte} (h : GeometricSyndromes syn v x) (hv : v ≠ 0#8) :
    bmTurn syn (linearState v v 1) 1 = linearState x v 2 := by
  have hdelta : bmDelta syn (linearState v v 1) 1 = gfMul (gfAdd x v) v := by
    rw [bmDelta_linearState, h.succ (j := 0) (by decide), Nat.sub_self, h.zero, gfAdd_gfMul]
  by_cases hx : x = v
  · subst hx
    rw [bmTurn_of_zero (by rw [hdelta, gfAdd_self, zero_gfMul])]
    rfl
  · have hne : bmDelta syn (linearState v v 1) 1 ≠ 0#8 := fun hzero =>
      hx (gfAdd_eq_zero_iff.1 (gfMul_right_cancel hv ((hdelta.symm.trans hzero).trans (zero_gfMul v).symm)))
    have hquotient : gfAdd v (gfDivide (gfMul (gfAdd x v) v) v) = x := by
      rw [gfDivide_eq_of_gfMul hv rfl, gfAdd_comm x, gfAdd_cancel_left]
    rw [bmTurn_of_same_length hne (show ¬ 2 * 1 ≤ 1 by decide), bmUpdate_linear (u := v) rfl rfl rfl, hdelta]
    exact congrArg (linearState · v 2) hquotient

/-- Once the locator is right every discrepancy is 0. -/
theorem GeometricSyndromes.bmTurn_found {syn : List Byte} {v x : Byte} (h : GeometricSyndromes syn v x) {r : Nat}
    (hr : r + 1 < 16) (m : Nat) : bmTurn syn (linearState x v m) (r + 1) = linearState x v (m + 1) := by
  have hdelta : bmDelta syn (linearState x v m) (r + 1) = 0#8 := by
    rw [bmDelta_linearState, Nat.add_sub_cancel, h.succ hr, gfAdd_self]
  exact bmTurn_of_zero hdelta

theorem GeometricSyndromes.foldl_bmTurn_found {syn : List Byte} {v x : Byte} (h : GeometricSyndromes syn v x)
    {n r : Nat} (hr : r + 1 + n ≤ 16) (m : Nat) :
    (List.range' (r + 1) n).foldl (bmTurn syn) (linearState x v m) = linearState x v (m + n) := by
  induction n generalizing r m with
  | zero => rfl
  | succ n ih =>
    rw [List.range'_succ, List.foldl_cons, h.bmTurn_found (by omega), ih (by omega)]
    exact congrArg (linearState x v) (by omega)

/-- The iteration answers the locator 1 + X·x of length 1. -/
theorem GeometricSyndromes.berlekampMassey {syn : List Byte} {v x : Byte} (h : GeometricSyndromes syn v x)
    (hv : v ≠ 0#8) : berlekampMassey syn = linearState x v 16 := by
  have hrange : List.range 16 = 0 :: 1 :: List.range' (1 + 1) 14 := by decide
  rw [Machine.berlekampMassey, hrange, List.foldl_cons, List.foldl_cons, h.bmTurn_zero hv, h.bmTurn_one hv,
    h.foldl_bmTurn_found (by decide)]

theorem GeometricSyndromes.not_all_zero {syn : List Byte} {v x : Byte} (h : GeometricSyndromes syn v x)
    (hv : v ≠ 0#8) : syn.all (· == 0#8) = false := by
  obtain _ | ⟨a, syn⟩ := syn
  · exact absurd h.zero.symm hv
  · have ha : a = v := h.zero
    simp [ha, hv]

/-- Om[i], the coefficient of x^i in S(x)·Lam(x) (41_rs_codec.md R364). -/
def evaluatorCoefficient (syn lam : List Byte) (len i : Nat) : Byte :=
  gfSum ((List.range (min i len + 1)).map fun j => gfMul (syn.getD (i - j) 0#8) (lam.getD j 0#8))

theorem errorEvaluator_eq_map (syn lam : List Byte) (len : Nat) :
    errorEvaluator syn lam len = (List.range 16).map (evaluatorCoefficient syn lam len) := rfl

theorem evaluatorCoefficient_linearLocator_zero (syn : List Byte) (u : Byte) :
    evaluatorCoefficient syn (linearLocator u) 1 0 = syn.getD 0 0#8 := by
  simp [evaluatorCoefficient, gfSum, linearLocator]

theorem evaluatorCoefficient_linearLocator_succ (syn : List Byte) (u : Byte) (i : Nat) :
    evaluatorCoefficient syn (linearLocator u) 1 (i + 1) = gfAdd (syn.getD (i + 1) 0#8) (gfMul (syn.getD i 0#8) u) := by
  rw [evaluatorCoefficient, Nat.min_eq_right (Nat.le_add_left 1 i)]
  simp [List.range_succ, gfSum, linearLocator]

/-- The evaluator of one error is its value (41_rs_codec.md R364). -/
theorem GeometricSyndromes.errorEvaluator {syn : List Byte} {v x : Byte} (h : GeometricSyndromes syn v x) :
    errorEvaluator syn (linearLocator x) 1 = v :: List.replicate 15 0#8 := by
  have hothers : ∀ i ∈ List.range 15, evaluatorCoefficient syn (linearLocator x) 1 (i + 1) = 0#8 := fun i hi => by
    have hlt := List.mem_range.1 hi
    rw [evaluatorCoefficient_linearLocator_succ, h.succ (by omega), gfMul_comm x, gfAdd_self]
  rw [errorEvaluator_eq_map, List.range_succ_eq_map, List.map_cons, evaluatorCoefficient_linearLocator_zero, h.zero,
    List.map_map]
  refine congrArg (v :: ·) ((List.map_congr_left hothers).trans ?_)
  rw [List.map_const', List.length_range]

theorem locatorEval_constant (v y : Byte) (n : Nat) : locatorEval (v :: List.replicate n 0#8) y = v := by
  rw [locatorEval, List.reverse_cons, List.reverse_replicate, polyEval_concat, polyEval_replicate_zero, zero_gfMul,
    zero_gfAdd]

/-! ### The error is found and removed -/

/-- The one root of 1 + X·x with X = alpha^d is the degree d. -/
theorem chienSearch_linearLocator {d : Nat} (hd : d < 64) : chienSearch (linearLocator (gfExp d)) = [d] := by
  have hroot : ∀ d' < 64, locatorEval (linearLocator (gfExp d)) (inverseLocator d') = 0#8 ↔ d' = d := by
    intro d' hd'
    rw [locatorEval_linearLocator, gfAdd_eq_zero_iff, inverseLocator, gfMul_gfExp, gfExp_eq_one_iff]
    omega
  have hfilter : chienSearch (linearLocator (gfExp d)) = (List.range 64).filter (fun d' => d' = d) :=
    List.filter_congr fun d' hd' => decide_eq_decide.2 (hroot d' (List.mem_range.1 hd'))
  rw [hfilter, List.filter_eq, List.count_eq_one_of_mem List.nodup_range (List.mem_range.2 hd)]
  rfl

/-- Forney's formula: X·(v / X) = v. -/
theorem errorValue_linearLocator {v : Byte} (hv : v ≠ 0#8) (d n : Nat) :
    errorValue (v :: List.replicate n 0#8) (linearLocator (gfExp d)) 1 d = some v := by
  have hvalue : gfMul (gfExp d) (gfDivide v (gfExp d)) = v := by
    rw [gfMul_comm, gfDivide_gfMul v (gfExp_ne_zero d)]
  simp only [errorValue, locatorDerivative_linearLocator, locatorEval_constant, gfExp_ne_zero, hvalue, hv, if_false]

theorem correctErrors_linearLocator {v : Byte} (hv : v ≠ 0#8) (d n : Nat) (r : List Byte) :
    correctErrors (v :: List.replicate n 0#8) (linearLocator (gfExp d)) 1 [d] r = some (corruptAt r (63 - d) v) := by
  simp only [correctErrors, errorValue_linearLocator hv, corruptAt]

theorem syndromes_corruptAt {m : List Byte} (hm : m.length = 48) {p : Nat} (hp : p < 64) (v : Byte) :
    GeometricSyndromes (syndromes (corruptAt (rsEncode m) p v)) v (gfExp (63 - p)) := by
  intro j hj
  rw [syndromes_getD _ hj, polyEval_corruptAt_rsEncode hm hp hj, gfExp_gfPower, Nat.mul_comm]

/-- The decoder on a word whose syndromes are those of one error of degree d. -/
theorem rsDecode_of_geometric {r : List Byte} {v : Byte} {d : Nat} (hv : v ≠ 0#8) (hd : d < 64)
    (h : GeometricSyndromes (syndromes r) v (gfExp d))
    (hcorrected : (syndromes (corruptAt r (63 - d) v)).all (· == 0#8) = true) :
    rsDecode r = .success ((corruptAt r (63 - d) v).take 48) (corruptAt r (63 - d) v) 1 := by
  have hlam : (berlekampMassey (syndromes r)).lam = linearLocator (gfExp d) := by rw [h.berlekampMassey hv]; rfl
  have hlen : (berlekampMassey (syndromes r)).len = 1 := by rw [h.berlekampMassey hv]; rfl
  simp only [rsDecode, h.not_all_zero hv, hlam, hlen, chienSearch_linearLocator hd, h.errorEvaluator,
    correctErrors_linearLocator hv, hcorrected, RsOutcome.ofWord, List.length_singleton, Bool.false_eq_true, if_false,
    if_true, ne_eq, not_true_eq_false, show ¬ 1 > 8 by decide]

/-- Settles O23: the correction adds the error a second time. -/
theorem oneCorruptedByteIsCorrected : Obligations.OneCorruptedByteIsCorrected := by
  intro m p v hm hp hv
  have hlen : (rsEncode m).length = 64 := by rw [rsEncode_length_eq, hm]
  have hrestored : corruptAt (corruptAt (rsEncode m) p v) (63 - (63 - p)) v = rsEncode m := by
    rw [show 63 - (63 - p) = p by omega, corruptAt_corruptAt (by omega)]
  have hdecode := rsDecode_of_geometric hv (d := 63 - p) (by omega) (syndromes_corruptAt hm hp v)
    (by rw [hrestored, syndromes_rsEncode_all_zero])
  rwa [hrestored, rsEncode_take hm] at hdecode

end Sys2Proof.Machine

/-! The interleaver (42_interleave.md): the transpose of an 8 x 8 matrix of bytes, and the two commands that transpose
CW. -/

namespace Sys2Proof.Machine

/-! ### The transpose (42_interleave.md R401 to R403) -/

/-- The number of rows is the number of columns, so both directions read at the same index (42_interleave.md R403). -/
theorem deinterleave_eq_interleave : deinterleave = interleave := rfl

theorem interleave_getD_transpose (c : List Byte) {r col : Nat} (hr : r < 8) (hcol : col < 8) :
    (interleave c).getD (8 * col + r) 0#8 = c.getD (8 * r + col) 0#8 := by
  have hlt : 8 * col + r < 64 := by omega
  have hrow : (8 * col + r) % 8 = r := by omega
  have hcolumn : (8 * col + r) / 8 = col := by omega
  simp [interleave, hlt, hrow, hcolumn]

/-- Two packets agree if their matrices do. -/
theorem packet_ext {c d : List Byte} (hc : c.length = 64) (hd : d.length = 64)
    (h : ∀ r col, r < 8 → col < 8 → c.getD (8 * r + col) 0#8 = d.getD (8 * r + col) 0#8) : c = d := by
  refine List.ext_getElem (hc.trans hd.symm) fun i hi hi' => ?_
  have hentry := h (i / 8) (i % 8) (by omega) (Nat.mod_lt i (by decide))
  rwa [Nat.div_add_mod, List.getD_eq_getElem _ _ hi, List.getD_eq_getElem _ _ hi'] at hentry

theorem interleave_interleave {c : List Byte} (hc : c.length = 64) : interleave (interleave c) = c :=
  packet_ext (interleave_length _) hc fun _ _ hr hcol => by
    rw [interleave_getD_transpose _ hcol hr, interleave_getD_transpose _ hr hcol]

theorem interleave_of_symmetric {c : List Byte} (hc : c.length = 64)
    (h : ∀ r col, r < 8 → col < 8 → c.getD (8 * r + col) 0#8 = c.getD (8 * col + r) 0#8) : interleave c = c :=
  packet_ext (interleave_length c) hc fun r col hr hcol => by
    rw [interleave_getD_transpose c hcol hr, h r col hr hcol]

/-! ### The two commands (42_interleave.md R410, R411) -/

/-- The state after INTERLEAVE. -/
def State.interleaveCw (s : State) : State := s.setBuf .cw (interleave (s.bufBytes .cw))

theorem exec_interleave (s : State) : exec .interleave s = .next s.interleaveCw := rfl

theorem exec_deinterleave (s : State) : exec .deinterleave s = .next s.interleaveCw := by
  rw [State.interleaveCw, ← deinterleave_eq_interleave]
  rfl

theorem interleaveCw_eq (s : State) : s.interleaveCw = { s with mem := s.interleaveCw.mem } := setBuf_eq s _ _

theorem interleaveCw_wf {s : State} (hwf : s.mem.wf = true) : s.interleaveCw.mem.wf = true := State.setBuf_wf hwf

theorem interleaveCw_sameOutside (s : State) : s.sameOutside s.interleaveCw [.cw] := setBuf_sameOutside s _ _

theorem bufBytes_interleaveCw {s : State} (hwf : s.mem.wf = true) :
    s.interleaveCw.bufBytes .cw = interleave (s.bufBytes .cw) :=
  bufBytes_setBuf_same hwf (interleave_length _)

theorem bufByte_interleaveCw {s : State} (hwf : s.mem.wf = true) {r col : Nat} (hr : r < 8) (hcol : col < 8) :
    s.interleaveCw.bufByte .cw (8 * col + r) = s.bufByte .cw (8 * r + col) := by
  have hnew : 8 * col + r < Buf.cw.size := show _ < 64 by omega
  have hold : 8 * r + col < Buf.cw.size := show _ < 64 by omega
  rw [← bufBytes_getD _ hnew, bufBytes_interleaveCw hwf, interleave_getD_transpose _ hr hcol, bufBytes_getD _ hold]

theorem bufBytes_interleaveCw_twice {s : State} (hwf : s.mem.wf = true) :
    s.interleaveCw.interleaveCw.bufBytes .cw = s.bufBytes .cw := by
  rw [bufBytes_interleaveCw (interleaveCw_wf hwf), bufBytes_interleaveCw hwf,
    interleave_interleave (State.bufBytes_length s .cw)]

theorem bufBytes_interleaveCw_of_symmetric {s : State} (hwf : s.mem.wf = true)
    (h : ∀ r col : Nat, r < 8 → col < 8 → s.bufByte .cw (8 * r + col) = s.bufByte .cw (8 * col + r)) :
    s.interleaveCw.bufBytes .cw = s.bufBytes .cw := by
  rw [bufBytes_interleaveCw hwf]
  refine interleave_of_symmetric (State.bufBytes_length s .cw) fun r col hr hcol => ?_
  have hentry : 8 * r + col < Buf.cw.size := show _ < 64 by omega
  have hmirror : 8 * col + r < Buf.cw.size := show _ < 64 by omega
  rw [bufBytes_getD _ hentry, bufBytes_getD _ hmirror, h r col hr hcol]

/-- Settles O24: the transpose is its own inverse and keeps a symmetric matrix. -/
theorem interleaveTransposesCw : Obligations.InterleaveTransposesCw :=
  ⟨rfl, fun s hwf => ⟨s.interleaveCw, s.interleaveCw.interleaveCw, exec_interleave s, interleaveCw_eq s,
    interleaveCw_wf hwf, interleaveCw_sameOutside s, fun _ _ hr hcol => bufByte_interleaveCw hwf hr hcol,
    exec_interleave s.interleaveCw, bufBytes_interleaveCw_twice hwf, bufBytes_interleaveCw_of_symmetric hwf⟩⟩

/-- Settles O25: DEINTERLEAVE has the next state of INTERLEAVE, read with rows and columns exchanged. -/
theorem deinterleaveTransposesCwBack : Obligations.DeinterleaveTransposesCwBack := by
  refine ⟨rfl, fun s hwf => ⟨s.interleaveCw, exec_deinterleave s, interleaveCw_eq s, interleaveCw_wf hwf,
    interleaveCw_sameOutside s, fun _ _ hr hcol => bufByte_interleaveCw hwf hcol hr, exec_interleave s, ?_⟩⟩
  intro u hu
  obtain rfl : s.interleaveCw = u := Host.Outcome.next.inj ((exec_interleave s).symm.trans hu)
  exact ⟨s.interleaveCw.interleaveCw, exec_deinterleave s.interleaveCw, bufBytes_interleaveCw_twice hwf⟩

end Sys2Proof.Machine

/-! The sync detector's window and the path from the transmit framer to the decoder (43_framer.md): sixteen ticks fill a
candidate (R456), the controller confirms a match and locks (R455), and a clean channel delivers the message (R459). -/

namespace Sys2Proof.Machine

/-! ### Windows that drop their oldest entry -/

/-- Pushing entries into a window one at a time keeps the newest ones. -/
theorem foldl_push {α : Type} (xs w : List α) :
    xs.foldl (fun w x => (w ++ [x]).tail) w = (w ++ xs).drop xs.length := by
  induction xs generalizing w with
  | nil => simp
  | cons x xs ih =>
    rw [List.foldl_cons, ih, ← List.drop_one, List.length_cons, Nat.add_comm, ← List.drop_drop,
      ← List.drop_append_of_le_length (by simp), List.append_assoc, List.singleton_append]

/-- A ring buffer read from its oldest entry: overwriting that entry and moving on is a push. -/
theorem rotate_set_succ {α : Type} {l : List α} {h : Nat} (x : α) (hh : h < l.length) :
    (l.set h x).rotate (h + 1) = (l.rotate h ++ [x]).tail := by
  have htake : (l.set h x).take (h + 1) = l.take h ++ [x] := by
    rw [List.take_add_one, List.take_set_of_le le_rfl, List.getElem?_set_self hh, Option.toList_some]
  rw [List.rotate_eq_drop_append_take (by simpa using hh), List.rotate_eq_drop_append_take hh.le, htake,
    List.drop_set_of_lt (Nat.lt_succ_self h), List.drop_eq_getElem_cons hh, List.cons_append, List.cons_append,
    List.tail_cons, List.append_assoc]

/-! ### A candidate over many ticks (43_framer.md R456; 45_demodulator.md R558 to R560) -/

/-- The candidate after ticks with the given discriminants and total energies. -/
def Candidate.afterTicks (c : Candidate) (ticks : List (Int × Nat)) : Candidate :=
  ticks.foldl (fun c p => c.update p.1 p.2) c

theorem Candidate.afterTicks_cons (c : Candidate) (p : Int × Nat) (ticks : List (Int × Nat)) :
    c.afterTicks (p :: ticks) = (c.update p.1 p.2).afterTicks ticks := rfl

/-- A history read from its oldest entry, the one the next tick overwrites. -/
def historyFrom (v : Vector Nat 16) (h : Fin 16) : List Nat := v.toList.rotate h

@[simp] theorem historyFrom_length (v : Vector Nat 16) (h : Fin 16) : (historyFrom v h).length = 16 := by
  simp [historyFrom]

theorem historyFrom_sum (v : Vector Nat 16) (h : Fin 16) : (historyFrom v h).sum = v.toList.sum :=
  (List.rotate_perm _ _).sum_eq

theorem historyFrom_set (v : Vector Nat 16) (h : Fin 16) (x : Nat) :
    historyFrom (v.set h.val x h.isLt) (h + 1) = (historyFrom v h ++ [x]).tail := by
  have hlt : h.val < v.toList.length := by simp
  have hwrap : (h + 1).val = (h.val + 1) % ((v.toList.set h.val x).length) := by simp [Fin.val_add]
  rw [historyFrom, Vector.toList_set, hwrap, List.rotate_mod, rotate_set_succ x hlt, historyFrom]

/-- The sync window as a list of decisions, oldest first. -/
def Candidate.decisions (c : Candidate) : List Bool := (List.range 16).map (fun i => c.sr.getLsbD (15 - i))

@[simp] theorem Candidate.decisions_length (c : Candidate) : c.decisions.length = 16 := by simp [Candidate.decisions]

theorem Candidate.getLsbD_sr (c : Candidate) {i : Nat} (hi : i < 16) :
    c.sr.getLsbD i = c.decisions.getD (15 - i) false := by
  have hlt : 15 - i < 16 := by omega
  have hback : 15 - (15 - i) = i := by omega
  simp [Candidate.decisions, hlt, hback]

theorem Candidate.update_sr_getLsbD (c : Candidate) (d : Int) (t : Nat) {i : Nat} (hi : i < 16) :
    (c.update d t).sr.getLsbD i = if i = 0 then decideBit d else c.sr.getLsbD (i - 1) := by
  cases i with
  | zero => simp [Candidate.update]
  | succ n => simp [Candidate.update, hi, BitVec.getLsbD_eq_getElem (Nat.lt_of_succ_lt hi)]

theorem Candidate.update_decisions (c : Candidate) (d : Int) (t : Nat) :
    (c.update d t).decisions = (c.decisions ++ [decideBit d]).tail := by
  refine List.ext_getElem (by simp) fun i hi _ => ?_
  have hlt : i < 16 := by simpa using hi
  rw [List.getElem_tail]
  simp only [Candidate.decisions, List.getElem_map, List.getElem_range,
    Candidate.update_sr_getLsbD c d t (show 15 - i < 16 by omega), List.getElem_append, List.length_map,
    List.length_range]
  by_cases hnewest : i = 15
  · simp [hnewest]
  · have hold : ¬ 15 - i = 0 := by omega
    have hin : i + 1 < 16 := by omega
    simp only [hold, if_false, hin, dif_pos, Nat.sub_sub]

/-- A window that every tick pushes one entry into holds, after sixteen ticks, the sixteen entries. -/
theorem Candidate.afterTicks_window {α : Type} (window : Candidate → List α) (entry : Int × Nat → α)
    (hpush : ∀ c p, window (c.update p.1 p.2) = (window c ++ [entry p]).tail) {c : Candidate}
    {ticks : List (Int × Nat)} (hlen : ticks.length = (window c).length) :
    window (c.afterTicks ticks) = ticks.map entry := by
  have hfold : window (c.afterTicks ticks) = (ticks.map entry).foldl (fun w x => (w ++ [x]).tail) (window c) := by
    rw [List.foldl_map, Candidate.afterTicks]
    exact (List.foldl_hom window fun c p => (hpush c p).symm).symm
  rw [hfold, foldl_push, List.length_map, hlen, List.drop_left]

theorem Candidate.afterTicks_fill_cons (c : Candidate) (p : Int × Nat) (ticks : List (Int × Nat)) :
    (c.afterTicks (p :: ticks)).fill = min (c.fill + ticks.length + 1) 16 := by
  induction ticks generalizing c p with
  | nil => rfl
  | cons q ticks ih =>
    have hfirst : (c.update p.1 p.2).fill = min (c.fill + 1) 16 := rfl
    rw [Candidate.afterTicks_cons, ih, hfirst, List.length_cons]
    omega

theorem Candidate.afterTicks_hpos (c : Candidate) (ticks : List (Int × Nat)) :
    (c.afterTicks ticks).hpos.val = (c.hpos.val + ticks.length) % 16 := by
  induction ticks generalizing c with
  | nil => exact (Nat.mod_eq_of_lt c.hpos.isLt).symm
  | cons p ticks ih =>
    have hfirst : (c.update p.1 p.2).hpos.val = (c.hpos.val + 1) % 16 := by simp [Candidate.update, Fin.val_add]
    rw [Candidate.afterTicks_cons, ih, hfirst, List.length_cons]
    omega

/-- Settles O37: the sync window and both histories are windows of sixteen entries, read from the oldest, into which
every tick pushes one. -/
theorem sixteenTicksFillTheSyncWindow : Obligations.SixteenTicksFillTheSyncWindow := by
  intro c c' ticks hlen hc'
  obtain rfl : c' = c.afterTicks ticks := hc'
  have hbits : (c.afterTicks ticks).decisions = ticks.map (fun p => decideBit p.1) :=
    Candidate.afterTicks_window _ _ (fun c p => c.update_decisions p.1 p.2) (hlen.trans c.decisions_length.symm)
  have habs : historyFrom (c.afterTicks ticks).ah (c.afterTicks ticks).hpos = ticks.map (fun p => p.1.natAbs) :=
    Candidate.afterTicks_window (fun c => historyFrom c.ah c.hpos) _ (fun c _ => historyFrom_set c.ah c.hpos _)
      (hlen.trans (historyFrom_length ..).symm)
  have henergy : historyFrom (c.afterTicks ticks).th (c.afterTicks ticks).hpos = ticks.map (fun p => p.2) :=
    Candidate.afterTicks_window (fun c => historyFrom c.th c.hpos) _ (fun c _ => historyFrom_set c.th c.hpos _)
      (hlen.trans (historyFrom_length ..).symm)
  refine ⟨?_, fun i hi => ?_, ?_, ?_, ?_⟩
  · cases ticks with
    | nil => simp at hlen
    | cons p ticks =>
      rw [List.length_cons] at hlen
      rw [Candidate.afterTicks_fill_cons]
      omega
  · have hlt : 15 - i < ticks.length := by omega
    rw [Candidate.getLsbD_sr _ hi, hbits, List.getD_eq_getElem _ _ (by simpa using hlt),
      List.getD_eq_getElem _ _ hlt, List.getElem_map, decideBit]
  · rw [Candidate.a16, ← historyFrom_sum, habs]
  · rw [Candidate.t16, ← historyFrom_sum, henergy]
  · rw [Fin.ext_iff, Candidate.afterTicks_hpos, hlen]
    omega

/-! ### The match and the controller's ticks (43_framer.md R455; 45_demodulator.md R560; 46_rx_controller.md R603 to
R605) -/

theorem Candidate.qualOk_iff (c : Candidate) (cfg : RxCfg) :
    c.qualOk cfg = true ↔ 0 < c.th.toList.sum ∧ cfg.lockRatio.toNat * c.th.toList.sum ≤ 8 * c.ah.toList.sum := by
  simp [Candidate.qualOk, Candidate.t16, Candidate.a16]

/-- The bits set in a difference are the positions where the two words differ. -/
theorem popcount16_xor (v w : BitVec 16) :
    popcount16 (v ^^^ w) = (List.range 16).countP (fun i => v.getLsbD i != w.getLsbD i) := by
  simp only [popcount16, BitVec.getLsbD_xor, bne]

theorem Candidate.syncMatch_iff (c : Candidate) (cfg : RxCfg) :
    c.syncMatch cfg = true ↔ 16 ≤ c.fill ∧
      (List.range 16).countP (fun i => c.sr.getLsbD i != (0x299F#16).getLsbD i) ≤ cfg.syncTol.toNat ∧
      c.qualOk cfg = true := by
  simp only [Candidate.syncMatch, popcount16_xor, Bool.and_eq_true, decide_eq_true_eq, and_assoc, Config.syncWord]

theorem sat16Succ_eq (c : BitVec 16) : sat16Succ c = if c = 0xFFFF#16 then 0xFFFF#16 else c + 1#16 := by
  unfold sat16Succ
  split
  next h => exact h
  next => rfl

theorem controllerTick_search {s : State} (h : s.rx.ctl.state = .search) (j : Fin 8) (b : Bool) :
    s.controllerTick j b = s.searchTick j := by
  simp only [State.controllerTick, h]

theorem controllerTick_confirm {s : State} (h : s.rx.ctl.state = .confirm) (j : Fin 8) (b : Bool) :
    s.controllerTick j b = s.confirmTick j := by
  simp only [State.controllerTick, h]

theorem searchTick_of_no_match {s : State} {j : Fin 8} (h : s.rx.cands[j].syncMatch s.rxCfg = false) :
    s.searchTick j = s := by
  simp only [State.searchTick, h, Bool.false_eq_true, if_false]

theorem searchTick_of_match {s : State} {j : Fin 8} (h : s.rx.cands[j].syncMatch s.rxCfg = true) :
    s.searchTick j = { s with rx := { s.rx with ctl := { s.rx.ctl with
      state := .confirm, confBest := j, confScore := s.rx.cands[j].a16, confLeft := 7 } } } := by
  simp only [State.searchTick, h, if_true]

/-- The state after a tick of the confirm window that leaves the given best candidate and score. -/
def State.withBest (s : State) (best : Fin 8) (score : Nat) : State :=
  { s with rx := { s.rx with ctl := { s.rx.ctl with
    confBest := best, confScore := score, confLeft := s.rx.ctl.confLeft - 1 } } }

/-- A match with a larger A16 becomes the best; the last tick of the window locks in the same step. -/
theorem confirmTick_eq {s : State} {j best : Fin 8} {score : Nat}
    (hbetter : s.rx.cands[j].syncMatch s.rxCfg = true ∧ s.rx.ctl.confScore < s.rx.cands[j].a16 →
      best = j ∧ score = s.rx.cands[j].a16)
    (hworse : ¬ (s.rx.cands[j].syncMatch s.rxCfg = true ∧ s.rx.ctl.confScore < s.rx.cands[j].a16) →
      best = s.rx.ctl.confBest ∧ score = s.rx.ctl.confScore) :
    s.confirmTick j =
      if s.rx.ctl.confLeft - 1 = 0 then (s.withBest best score).lockOn else s.withBest best score := by
  unfold State.confirmTick State.withBest
  by_cases h : s.rx.cands[j].syncMatch s.rxCfg = true ∧ s.rx.ctl.confScore < s.rx.cands[j].a16
  · obtain ⟨rfl, rfl⟩ := hbetter h
    obtain ⟨hmatch, hlarger⟩ := h
    simp only [hmatch, hlarger, decide_true, Bool.and_true, if_true]
  · obtain ⟨rfl, rfl⟩ := hworse h
    have hkeep : (s.rx.cands[j].syncMatch s.rxCfg && decide (s.rx.ctl.confScore < s.rx.cands[j].a16)) = false := by
      simpa using h
    simp only [hkeep, Bool.false_eq_true, if_false]

theorem withBest_lockOn {s : State} (h : s.rx.ctl.confLeft = 1) (best : Fin 8) (score : Nat) :
    (s.withBest best score).lockOn = { s with
      syncCnt := if s.syncCnt = 0xFFFF#16 then 0xFFFF#16 else s.syncCnt + 1#16,
      rx := { s.rx with ctl := { s.rx.ctl with
        state := .payload, confBest := best, confScore := score, confLeft := 0, lock := best, pcount := 0 } } } := by
  simp only [State.lockOn, State.withBest, sat16Succ_eq, h]

/-- Settles O38: the tests of the match, then SEARCH and CONFIRM case by case. -/
theorem searchConfirmsThenLocks : Obligations.SearchConfirmsThenLocks := by
  refine ⟨fun c cfg => ⟨c.qualOk_iff cfg, c.syncMatch_iff cfg, rfl⟩, fun s j b => ⟨fun hs hm => ?_,
    fun hs hm => ?_, fun hs best score hbetter hworse => ⟨fun hmore => ?_, fun hlast => ?_⟩⟩⟩
  · rw [controllerTick_search hs, searchTick_of_no_match hm]
  · rw [controllerTick_search hs, searchTick_of_match hm]
  · rw [controllerTick_confirm hs, confirmTick_eq hbetter hworse, if_neg (by omega)]
    rfl
  · rw [controllerTick_confirm hs, confirmTick_eq hbetter hworse, if_pos (by omega), withBest_lockOn hlast]

/-! ### Framing and assembling (43_framer.md R452, R458, R459) -/

/-- The upper k bits of a byte, accumulated from the most significant one. -/
theorem foldl_upper_bits (v : Byte) {k : Nat} (hk : k ≤ 8) :
    ((List.range k).map (fun b => v.getLsbD (7 - b))).foldl (fun acc b => 2 * acc + b.toNat) 0 =
      v.toNat >>> (8 - k) := by
  induction k with
  | zero => exact (Nat.shiftRight_eq_zero v.toNat 8 v.isLt).symm
  | succ k ih =>
    have hnext : 8 - k = (7 - k) + 1 := by omega
    have hhere : 8 - (k + 1) = 7 - k := by omega
    rw [List.range_succ, List.map_append, List.foldl_append, ih (by omega), hhere, hnext, Nat.shiftRight_succ]
    simp only [List.map_singleton, List.foldl_cons, List.foldl_nil, BitVec.getLsbD, Nat.toNat_testBit,
      ← Nat.shiftRight_eq_div_pow]
    exact Nat.div_add_mod _ 2

theorem byteOfBits_bits (v : Byte) : byteOfBits ((List.range 8).map (fun b => v.getLsbD (7 - b))) = v := by
  rw [byteOfBits, foldl_upper_bits v le_rfl]
  exact BitVec.ofNat_toNat 8 v

/-- After the 16 bits of SYNC, a frame sends its packet's bytes, each most significant bit first. -/
theorem payloadBits_getD (t : List Byte) {q b : Nat} (hq : q < 64) (hb : b < 8) :
    ((frameBitList (frameBytes t)).drop 16).getD (8 * q + b) false = (t.getD q 0#8).getLsbD (7 - b) := by
  have hlt : 16 + (8 * q + b) < Config.frameBits := show _ < 528 by omega
  have hbyte : (16 + (8 * q + b)) / 8 = q + 2 := by omega
  have hbit : (16 + (8 * q + b)) % 8 = b := by omega
  simp [frameBitList, hlt, wireBit, hbyte, hbit, frameBytes]

theorem assemblePayload_frameBits {t : List Byte} (ht : t.length = 64) :
    assemblePayload ((frameBitList (frameBytes t)).drop 16) = t := by
  refine List.ext_getElem ((assemblePayload_length _).trans ht.symm) fun q hq hqt => ?_
  have hq64 : q < 64 := ht ▸ hqt
  have hbits : (List.range 8).map (fun b => ((frameBitList (frameBytes t)).drop 16).getD (8 * q + b) false) =
      (List.range 8).map (fun b => (t.getD q 0#8).getLsbD (7 - b)) :=
    List.map_congr_left fun b hb => payloadBits_getD t hq64 (List.mem_range.1 hb)
  simp only [assemblePayload, List.getElem_map, List.getElem_range, hbits, byteOfBits_bits,
    List.getD_eq_getElem _ _ hqt]

/-- Settles O41: each stage of the receive path undoes its stage of the transmit path. -/
theorem cleanChannelDeliversTheMessage : Obligations.CleanChannelDeliversTheMessage := by
  intro m hm
  have hcw : (rsEncode m).length = 64 := by simp [hm]
  have hraw := assemblePayload_frameBits (interleave_length (rsEncode m))
  refine ⟨frameBitList_length _, hraw, ?_⟩
  rw [hraw, deinterleave_eq_interleave, interleave_interleave hcw, rsDecode_rsEncode hm]

end Sys2Proof.Machine

/-! The modulation loop (44_modulator.md section 1): where it stands after n samples, and which samples a modulation
gives. -/

namespace Sys2Proof.Machine

/-! ### Symbols and samples (44_modulator.md R504, R505) -/

/-- The sample of a phase is the table's entry for its top 8 bits. -/
theorem toneSample_eq (phi : Phase) : toneSample phi = BitVec.ofInt 16 (sine (phi.toNat / 2 ^ 24)) := by
  rw [toneSample, phaseIndex, BitVec.toNat_ushiftRight, Nat.shiftRight_eq_div_pow]

/-- One sample adds 600 to what the whole symbols of fs and the accumulator count together. -/
theorem modAdvance_total {inc1 inc0 : Phase} {fs : Nat} {b : Bool} {m : ModState} :
    (modAdvance inc1 inc0 fs b m).sacc + fs * (modAdvance inc1 inc0 fs b m).k = m.sacc + fs * m.k + 600 := by
  have hbaud : Config.baud = 600 := rfl
  simp only [modAdvance]
  split
  · rw [Nat.mul_succ]
    omega
  · omega

/-- After n samples the loop has counted 600·n, as whole symbols of fs and a rest below fs. -/
theorem modStateAt_total (f : List Bool) {fs : Nat} (hfs : Config.baud ≤ fs) (n : Nat) :
    (modStateAt f fs n).sacc + fs * (modStateAt f fs n).k = 600 * n ∧ (modStateAt f fs n).sacc < fs := by
  induction n with
  | zero => exact ⟨Nat.mul_zero fs, Nat.lt_of_lt_of_le (show 0 < Config.baud by decide) hfs⟩
  | succ n ih =>
    obtain ⟨htotal, hrest⟩ := ih
    refine ⟨?_, modAdvance_sacc_lt hfs hrest⟩
    rw [modStateAt, modAdvance_total, htotal, Nat.mul_succ]

/-- Settles O29: the whole symbols and the rest are the quotient and the remainder of 600·n by fs. -/
theorem sampleBelongsToItsSymbol : Obligations.SampleBelongsToItsSymbol := fun f fs n hfs => by
  obtain ⟨hquotient, hremainder⟩ :=
    (Nat.div_mod_unique (Nat.lt_of_lt_of_le (by decide) hfs)).2 (modStateAt_total f hfs n)
  exact ⟨hquotient.symm, hremainder.symm⟩

/-- The loop has not yet left the first K symbols exactly while it has given fewer samples than they have. -/
theorem modStateAt_k_lt_iff (f : List Bool) {fs : Nat} (hfs : Config.baud ≤ fs) (n bits : Nat) :
    (modStateAt f fs n).k < bits ↔ n < sampleCount bits fs := by
  have hpos : 0 < fs := Nat.lt_of_lt_of_le (by decide) hfs
  rw [(sampleBelongsToItsSymbol f fs n hfs).1, Nat.div_lt_iff_lt_mul hpos, sampleCount, Config.baud]
  omega

/-- After the samples of K symbols the loop stands at symbol K. -/
theorem modStateAt_k_sampleCount (f : List Bool) {fs : Nat} (hfs : Config.baud ≤ fs) (bits : Nat) :
    (modStateAt f fs (sampleCount bits fs)).k = bits := by
  have hnotBefore := (modStateAt_k_lt_iff f hfs (sampleCount bits fs) bits).1.mt (Nat.lt_irrefl _)
  have hnotAfter : (modStateAt f fs (sampleCount bits fs)).k < bits + 1 := by
    rw [modStateAt_k_lt_iff f hfs, sampleCount, sampleCount, Nat.succ_mul]
    simp only [Config.baud] at hfs ⊢
    omega
  omega

/-! ### The samples of a modulation (44_modulator.md R504, R507) -/

/-- While bits are left, the loop gives one sample of its phase after another. -/
theorem modulateFrom_modStateAt {f : List Bool} {fs : Nat} (fuel n : Nat)
    (h : ∀ i, i < n + fuel → (modStateAt f fs i).k < f.length) :
    modulateFrom f fs fuel (modStateAt f fs n) =
      (List.range' n fuel).map (fun i => toneSample (modStateAt f fs i).phi) := by
  induction fuel generalizing n with
  | zero => rfl
  | succ fuel ih =>
    have hrest := ih (n + 1) fun i hi => h i (by omega)
    rw [modulateFrom, if_pos (h n (by omega)), List.range'_succ, List.map_cons, ← hrest]
    rfl

/-- A modulation is one sample of the loop's phase for each of the samples of its symbols. -/
theorem modulate_eq_map (f : List Bool) {fs : Nat} (hfs : Config.baud ≤ fs) :
    modulate f fs = (List.range (sampleCount f.length fs)).map (fun n => toneSample (modStateAt f fs n).phi) := by
  rw [List.range_eq_range']
  refine modulateFrom_modStateAt (sampleCount f.length fs) 0 fun i hi => ?_
  rwa [modStateAt_k_lt_iff f hfs, ← Nat.zero_add (sampleCount _ _)]

theorem modulate_length (f : List Bool) {fs : Nat} (hfs : Config.baud ≤ fs) :
    (modulate f fs).length = sampleCount f.length fs := by
  rw [modulate_eq_map f hfs, List.length_map, List.length_range]

theorem modulate_getElem? (f : List Bool) {fs n : Nat} (hfs : Config.baud ≤ fs) (hn : n < sampleCount f.length fs) :
    (modulate f fs)[n]? = some (toneSample (modStateAt f fs n).phi) := by
  rw [modulate_eq_map f hfs, List.getElem?_map, List.getElem?_range hn, Option.map_some]

/-- Settles O30: the loop leaves the frame's last symbol with the last of its samples. -/
theorem frameHasExactlyItsSamples : Obligations.FrameHasExactlyItsSamples := by
  refine ⟨?_, fun f hf => ?_⟩
  · intro f fs count hf hmin _ hcount
    have hfs : Config.baud ≤ fs := Nat.le_trans (by decide) hmin
    obtain rfl : count = sampleCount f.length fs := by rw [hcount, hf]; rfl
    have hsome : 0 < sampleCount f.length fs := by omega
    refine ⟨hf ▸ modStateAt_k_sampleCount f hfs f.length, modulate_length f hfs, ?_, fun n hn => ⟨?_, ?_⟩⟩
    · rw [List.head?_eq_getElem?, modulate_getElem? f hfs hsome]
      exact congrArg some (show toneSample 0#32 = 0#16 by decide)
    · exact hf ▸ (modStateAt_k_lt_iff f hfs n f.length).2 hn
    · rw [modulate_getElem? f hfs hn, toneSample_eq]
  · rw [modulate_length f (by decide), modulate_length f (by decide), modulate_length f (by decide), hf]
    decide

end Sys2Proof.Machine

/-! The transmission under way (44_modulator.md R510 to R513): the engine stands where the modulation loop of the frame
in TXF stands, and AOUT holds the samples not popped yet; every step keeps this. -/

namespace Sys2Proof.Machine

/-! ### The end of a list's first entries -/

/-- One more entry at the end of the last ones taken. -/
theorem append_eq_drop_take {α : Type} {l M : List α} {m : Nat} {x : α} (hx : M[m]? = some x)
    (h : l = (M.take m).drop (m - l.length)) : l ++ [x] = (M.take (m + 1)).drop (m + 1 - (l ++ [x]).length) := by
  have hm : m ≤ M.length := Nat.le_of_lt (List.getElem?_eq_some_iff.1 hx).1
  have hkept : m - l.length ≤ (M.take m).length := by
    rw [List.length_take_of_le hm]
    exact Nat.sub_le ..
  rw [List.length_append, List.length_singleton, Nat.add_sub_add_right, List.take_add_one, hx, Option.toList_some,
    List.drop_append_of_le_length hkept, ← h]

/-- The oldest of the last entries taken away. -/
theorem tail_eq_drop_take {α : Type} {l M : List α} {m : Nat} {x : α} (hlen : (x :: l).length ≤ m)
    (h : x :: l = (M.take m).drop (m - (x :: l).length)) : l = (M.take m).drop (m - l.length) := by
  have htail := congrArg List.tail h
  rw [List.length_cons] at hlen
  rwa [List.tail_cons, List.tail_drop, List.length_cons, show m - (l.length + 1) + 1 = m - l.length by omega] at htail

/-! ### The engine's variables and the frame in TXF -/

/-- The engine's variables of the modulation loop (10_state.md R100, 44_modulator.md R504). -/
def State.modState (s : State) : ModState := { k := s.tx.k, phi := s.tx.phi, sacc := s.tx.sacc }

theorem frameInTxf_length (s : State) : s.frameInTxf.length = Config.frameBits := frameBitList_length _

/-- Bit k of the frame stands in byte k/8 of TXF, most significant bit first (30_encoding.md R211). -/
theorem frameInTxf_getD (s : State) {k : Nat} (hk : k < Config.frameBits) :
    s.frameInTxf.getD k false = (s.bufByte .txf (k / 8)).getLsbD (7 - k % 8) := by
  have hbyte : k / 8 < Buf.txf.size := by
    change k < 528 at hk
    change k / 8 < 66
    omega
  rw [← bufBytes_getD s hbyte]
  simp [State.frameInTxf, frameBitList, hk, wireBit]

/-- The engine's step is the loop's step for the frame in TXF, where the increments are those of SAMPLE_RATE. -/
theorem txAdvance_modState {s : State} (hinc1 : s.tx.inc1 = ncoIncrement Config.markHz s.fs)
    (hinc0 : s.tx.inc0 = ncoIncrement Config.spaceHz s.fs) (hk : s.tx.k < Config.frameBits) :
    s.txAdvance.modState =
      modAdvance (ncoIncrement Config.markHz s.fs) (ncoIncrement Config.spaceHz s.fs) s.fs
        (s.frameInTxf.getD s.tx.k false) s.modState := by
  rw [frameInTxf_getD s hk, ← hinc1, ← hinc0]
  rfl

/-! ### What the operations keep -/

/-- What `FollowsModulate` says of an active transmission after m samples. -/
theorem State.FollowsModulate.intro {s : State} (m : Nat) (hloop : modStateAt s.frameInTxf s.fs m = s.modState)
    (hlen : s.tx.aout.length ≤ m)
    (haout : s.tx.aout = ((modulate s.frameInTxf s.fs).take m).drop (m - s.tx.aout.length)) : s.FollowsModulate :=
  fun _ => ⟨m, hloop, hlen, haout⟩

/-- With no transmission active there is nothing to follow. -/
theorem State.FollowsModulate.of_idle {s : State} (h : s.tx.active = false) : s.FollowsModulate :=
  fun hactive => absurd (h.symm.trans hactive) Bool.false_ne_true

/-- Only the engine, SAMPLE_RATE and TXF matter. -/
theorem State.FollowsModulate.frame {s t : State} (h : s.FollowsModulate) (htx : t.tx = s.tx)
    (hrate : t.sampleRate = s.sampleRate) (hmem : s.mem.WrittenIn (· ≠ .txf) t.mem) : t.FollowsModulate := by
  have htxf : t.bufBytes .txf = s.bufBytes .txf := hmem.bufBytes_other (· rfl)
  simpa only [State.FollowsModulate, State.frameInTxf, State.fs, htx, hrate, htxf] using h

/-- A transmission starts before its first sample, with AOUT empty (44_modulator.md R520, R513). -/
theorem startTx_followsModulate {s : State} (haout : s.tx.aout = []) (payload : List Byte) :
    (s.startTx payload).FollowsModulate := by
  have hempty : (s.startTx payload).tx.aout = [] := haout
  refine .intro 0 rfl ?_ ?_ <;> rw [hempty]
  · exact Nat.le_refl 0
  · rfl

/-- The engine's step pushes sample m of the modulation. -/
theorem txAdvance_followsModulate {s : State} (hrange : s.TransmitterInRange) (h : s.FollowsModulate)
    (hactive : s.tx.active = true) (hbit : s.tx.k < Config.frameBits) : s.txAdvance.FollowsModulate := by
  obtain ⟨hcfg, -, -, -, hrunning⟩ := hrange
  obtain ⟨-, hinc1, hinc0, -⟩ := hrunning hactive
  obtain ⟨m, hloop, hlen, haout⟩ := h hactive
  change modStateAt s.frameInTxf s.fs m = s.modState at hloop
  have hbefore : m < sampleCount s.frameInTxf.length s.fs := by
    rw [← modStateAt_k_lt_iff s.frameInTxf hcfg.baud_le, hloop, frameInTxf_length]
    exact hbit
  have hsample : (modulate s.frameInTxf s.fs)[m]? = some (toneSample s.tx.phi) := by
    rw [modulate_getElem? s.frameInTxf hcfg.baud_le hbefore, hloop]
    rfl
  refine .intro (m + 1) ?_ ?_ (append_eq_drop_take hsample haout)
  · change modStateAt s.frameInTxf s.fs (m + 1) = s.txAdvance.modState
    rw [modStateAt, hloop, txAdvance_modState hinc1 hinc0 hbit]
    rfl
  · rw [State.txAdvance_aout, List.length_append]
    exact Nat.succ_le_succ hlen

theorem txTurn_followsModulate {s : State} (hrange : s.TransmitterInRange) (h : s.FollowsModulate) :
    s.txTurn.FollowsModulate := by
  rcases s.txTurn_cases with ⟨hactive, hbit, -, heq⟩ | ⟨-, heq⟩ <;> rw [heq]
  · exact txAdvance_followsModulate hrange h hactive hbit
  · exact h

/-- A pop takes the oldest sample and leaves the loop where it stands. -/
theorem popAout_followsModulate {s : State} (h : s.FollowsModulate) : s.popAout.2.FollowsModulate := by
  rcases s.popAout_cases with ⟨-, -, heq⟩ | ⟨-, -, heq⟩ | ⟨x, rest, haout, heq⟩ <;> rw [heq]
  · exact h.frame rfl rfl .same
  · exact h
  · rcases State.txComplete_cases { s with tx := { s.tx with aout := rest } } with ⟨-, -, -, heq⟩ | ⟨-, heq⟩
      <;> rw [heq]
    · exact .of_idle rfl
    · intro hactive
      obtain ⟨m, hloop, hlen, hwindow⟩ := h hactive
      rw [haout] at hlen hwindow
      exact ⟨m, hloop, Nat.le_of_succ_le hlen, tail_eq_drop_take hlen hwindow⟩

/-! ### Commands, writes and turns -/

theorem State.Executed.followsModulate {s t : State} (ht : s.Executed t) (hrange : s.TransmitterInRange)
    (h : s.FollowsModulate) : t.FollowsModulate := by
  cases ht with
  | nothing | result | domainError | txBusy | reopened => exact h.frame rfl rfl .same
  | buffer b l hb =>
    refine h.frame rfl rfl (Memory.WrittenIn.same.setBuf ?_ l)
    rcases hb with rfl | rfl <;> decide
  | decoded =>
    have hsyn : s.mem.WrittenIn (· ≠ .txf) (s.setBuf .syn (syndromes s.codeword)).mem :=
      Memory.WrittenIn.same.setBuf (by decide) _
    exact h.frame (by simp) (by simp) (commitDecode_writtenIn hsyn (by decide) (by decide) _)
  | txStarted payload hidle =>
    obtain ⟨-, -, -, hempty, -⟩ := hrange
    exact startTx_followsModulate (hempty hidle) payload
  | txAborted => exact .of_idle rfl
  | reset => exact reset_followsModulate

theorem State.Written.followsModulate {s t : State} (ht : s.Written t) (hrange : s.TransmitterInRange)
    (h : s.FollowsModulate) : t.FollowsModulate := by
  cases ht with
  | command hexec => exact hexec.followsModulate hrange h
  | refused | unchanged | opened | closed | errCleared | plain | rxCfgSet | acknowledged | overrun | pushed =>
    exact h.frame rfl rfl .same
  | rateSet v hidle => exact .of_idle hidle
  | word a b w v ha hb =>
    refine h.frame rfl rfl (setBufWord_writtenIn s v ha hb ?_)
    rintro rfl
    cases hb

theorem State.Performed.followsModulate {s t : State} (ht : s.Performed t) (hrange : s.TransmitterInRange)
    (h : s.FollowsModulate) : t.FollowsModulate := by
  cases ht with
  | written hwritten => exact hwritten.followsModulate hrange h
  | read | unmappedRead => exact h.frame rfl rfl .same
  | popped => exact popAout_followsModulate h
  | txTurn => exact txTurn_followsModulate hrange h
  | rxTurn =>
    have hkeeps := s.rxTurn_keeps
    refine h.frame hkeeps.tx hkeeps.sampleRate ((rxTurn_writtenIn s).mono ?_)
    rintro b hreceived rfl
    rcases hreceived with hb | hb | hb <;> cases hb
  | hardReset => exact reset_followsModulate

/-- Settles O31: together with the transmitter's ranges, which bound the loop and give its increments, every turn keeps
it. -/
theorem stepKeepsTheTransmissionOnModulate : Obligations.StepKeepsTheTransmissionOnModulate :=
  fun _ _ hcfg htx hfollows hstep =>
    (step_preserves (P := fun s => s.TransmitterInRange ∧ s.FollowsModulate)
      (fun _ _ h => h)
      (fun _ _ ⟨hrange, h⟩ ht => ⟨ht.transmitterInRange hrange, ht.followsModulate hrange h⟩)
      ⟨⟨hcfg, htx⟩, hfollows⟩ hstep).2

end Sys2Proof.Machine

/-! The transmit commands (44_modulator.md R520 to R522), the AOUT pop (R511, R512) and the TX engine's turn (R510),
which commutes with the RX engine's (70_reset_and_hazards.md R770). -/

namespace Sys2Proof.Machine

/-! ### Starting a transmission (44_modulator.md R520) -/

theorem startTx_eq (s : State) (t : List Byte) :
    s.startTx t = { s with
      mem := (s.startTx t).mem,
      tx := { active := true, k := 0, phi := 0#32, sacc := 0, aout := s.tx.aout,
              inc1 := BitVec.ofNat 32 ((2000 * 2 ^ 32 + s.sampleRate.toNat / 2) / s.sampleRate.toNat),
              inc0 := BitVec.ofNat 32 ((1200 * 2 ^ 32 + s.sampleRate.toNat / 2) / s.sampleRate.toNat) } } := rfl

theorem startTx_wf {s : State} (hwf : s.mem.wf = true) (t : List Byte) : (s.startTx t).mem.wf = true :=
  (startTx_writtenIn (P := (· = .txf)) .same rfl t).wf hwf

theorem startTx_sameOutside (s : State) (t : List Byte) : s.sameOutside (s.startTx t) [.txf] :=
  (startTx_writtenIn (P := (· = .txf)) .same rfl t).sameOutside fun _ => List.mem_singleton.2

/-- TXF holds the packet's frame. -/
theorem bufByte_startTx {s : State} (hwf : s.mem.wf = true) {t : List Byte} (ht : t.length = 64) {i : Nat}
    (hi : i < 66) : (s.startTx t).bufByte .txf i = (frameBytes t).getD i 0#8 := by
  have hframe : (s.startTx t).bufByte .txf i = (s.setBuf .txf (frameBytes t)).bufByte .txf i :=
    State.bufByte_congr rfl .txf i
  rw [hframe, State.bufByte_setBuf_same hwf hi]
  rwa [frameBytes_length, ht]

theorem bufByte_startTx_sync_high {s : State} (hwf : s.mem.wf = true) {t : List Byte} (ht : t.length = 64) :
    (s.startTx t).bufByte .txf 0 = 0x29#8 := by
  rw [bufByte_startTx hwf ht (by decide)]
  rfl

theorem bufByte_startTx_sync_low {s : State} (hwf : s.mem.wf = true) {t : List Byte} (ht : t.length = 64) :
    (s.startTx t).bufByte .txf 1 = 0x9F#8 := by
  rw [bufByte_startTx hwf ht (by decide)]
  rfl

/-- After SYNC come the packet's bytes. -/
theorem bufByte_startTx_payload {s : State} (hwf : s.mem.wf = true) {t : List Byte} (ht : t.length = 64) {q : Nat}
    (hq : q < 64) : (s.startTx t).bufByte .txf (2 + q) = t.getD q 0#8 := by
  rw [bufByte_startTx hwf ht (by omega), Nat.add_comm]
  rfl

/-! ### The commands -/

theorem exec_txSend (s : State) : exec .txSend s =
    .next (if s.tx.active then s.raiseError .txBusy else s.startTx (interleave (rsEncode (s.bufBytes .msg)))) := rfl

theorem exec_txSendRaw (s : State) : exec .txSendRaw s =
    .next (if s.tx.active then s.raiseError .txBusy else s.startTx (s.bufBytes .cw)) := rfl

theorem exec_txAbort (s : State) : exec .txAbort s =
    .next (if s.tx.active then { s with tx := { s.tx with aout := [], active := false } } else s) := rfl

/-- Settles O26: the payload is the transpose of the codeword's matrix. -/
theorem txSendStartsTheFrame : Obligations.TxSendStartsTheFrame := by
  refine ⟨rfl, fun s hwf => ⟨fun hidle => ?_, fun hbusy => ?_⟩⟩
  · have hlen := interleave_length (rsEncode (s.bufBytes .msg))
    refine ⟨s.startTx (interleave (rsEncode (s.bufBytes .msg))), ?_, startTx_eq s _, startTx_wf hwf _,
      startTx_sameOutside s _, bufByte_startTx_sync_high hwf hlen, bufByte_startTx_sync_low hwf hlen,
      fun r col hr hcol => ?_⟩
    · rw [exec_txSend, hidle]
      rfl
    · rw [bufByte_startTx_payload hwf hlen (by omega), interleave_getD_transpose _ hr hcol]
  · rw [exec_txSend, hbusy]
    rfl

/-- Settles O27: the payload is CW. -/
theorem txSendRawSendsCwAsItIs : Obligations.TxSendRawSendsCwAsItIs := by
  refine ⟨rfl, fun s hwf => ⟨fun hidle => ?_, fun hbusy => ?_⟩⟩
  · have hlen : (s.bufBytes .cw).length = 64 := State.bufBytes_length s .cw
    refine ⟨s.startTx (s.bufBytes .cw), ?_, startTx_eq s _, startTx_wf hwf _, startTx_sameOutside s _,
      bufByte_startTx_sync_high hwf hlen, bufByte_startTx_sync_low hwf hlen, fun q hq => ?_⟩
    · rw [exec_txSendRaw, hidle]
      rfl
    · rw [bufByte_startTx_payload hwf hlen hq, bufBytes_getD s hq]
  · rw [exec_txSendRaw, hbusy]
    rfl

/-- Settles O28: the command is one test of the active flag. -/
theorem txAbortEmptiesAout : Obligations.TxAbortEmptiesAout := by
  refine ⟨rfl, fun s => ⟨fun hactive => ?_, fun hidle => ?_⟩⟩
  · rw [exec_txAbort, if_pos hactive]
  · rw [exec_txAbort, if_neg (by simp [hidle])]

/-! ### The AOUT pop (44_modulator.md R511, R512) -/

theorem popAout_underrun {s : State} (haout : s.tx.aout = []) (hactive : s.tx.active = true) :
    s.popAout = (0#32, s.signal .txUnderrun) := by
  simp [State.popAout, haout, hactive]

theorem popAout_idle {s : State} (haout : s.tx.aout = []) (hidle : s.tx.active = false) : s.popAout = (0#32, s) := by
  simp [State.popAout, haout, hidle]

/-- VALID, bit 31, above the sample in bits 15:0. -/
theorem validSample_eq (x : Sample) : 1#1 ++ 0#15 ++ x = 0x80000000#32 ||| x.setWidth 32 := by
  rw [BitVec.append_def]
  rfl

theorem popAout_goes_on {s : State} {x : Sample} {more : List Sample} (haout : s.tx.aout = x :: more)
    (h : more ≠ [] ∨ s.tx.active = false ∨ s.tx.k ≠ Config.frameBits) :
    s.popAout = (0x80000000#32 ||| x.setWidth 32, { s with tx := { s.tx with aout := more } }) := by
  rw [← validSample_eq, State.popAout, haout]
  refine congrArg (Prod.mk _) (if_neg fun ⟨hnil, hactive, hlast⟩ => ?_)
  rcases h with hmore | hidle | hbits
  · exact hmore hnil
  · exact Bool.false_ne_true (hidle.symm.trans hactive)
  · exact hbits hlast

theorem popAout_last {s : State} {x : Sample} (haout : s.tx.aout = [x]) (hactive : s.tx.active = true)
    (hlast : s.tx.k = Config.frameBits) :
    s.popAout = (0x80000000#32 ||| x.setWidth 32,
      State.signal { s with tx := { s.tx with aout := [], active := false } } .txDone) := by
  rw [← validSample_eq, State.popAout, haout]
  exact congrArg (Prod.mk _) (if_pos ⟨rfl, hactive, hlast⟩)

/-- A read of AOUT_DATA is the pop, its word put before the earlier ones. -/
theorem step_read_aout {s t : State} {a : Addr} {v : Word} {rest : List Action} (hs : s.schedule = .read a :: rest)
    (ha : target a = .reg .aoutData) (hpop : State.popAout { s with schedule := rest } = (v, t)) :
    step s = .next { t with reads := v :: s.reads } := by
  rw [step_read hs, State.recordRead, hostRead_reg ha]
  simp only [State.regWord, State.afterRegRead, hpop]

/-- Settles O32: the pop case by case. -/
theorem aoutReadPopsTheOldestSample : Obligations.AoutReadPopsTheOldestSample := by
  intro s a rest hs haddr
  have ha : target a = .reg .aoutData := (mask_eq_address_iff a .aoutData).1 haddr
  refine ⟨fun haout hactive => ?_, fun haout hidle => ?_, fun x more haout => ⟨fun hgoesOn => ?_,
    fun hmore hactive hlast => ?_⟩⟩
  · rw [step_read_aout hs ha (popAout_underrun haout hactive)]
    rfl
  · rw [step_read_aout hs ha (popAout_idle haout hidle)]
  · rw [step_read_aout hs ha (popAout_goes_on haout hgoesOn)]
  · subst hmore
    rw [step_read_aout hs ha (popAout_last haout hactive hlast)]
    rfl

/-! ### The TX engine's turn (44_modulator.md R510) -/

theorem txTurn_pushes {s : State} (hactive : s.tx.active = true) (hbit : s.tx.k < Config.frameBits)
    (hroom : s.tx.aout.length < Config.fifoDepth) : s.txTurn = s.txAdvance := by
  simp [State.txTurn, State.txReady, hactive, hbit, hroom]

theorem txTurn_waits {s : State}
    (h : s.tx.active = false ∨ Config.frameBits ≤ s.tx.k ∨ Config.fifoDepth ≤ s.tx.aout.length) : s.txTurn = s := by
  rcases s.txTurn_cases with ⟨hactive, hbit, hroom, -⟩ | ⟨-, heq⟩
  · rcases h with hidle | hend | hfull
    · exact absurd (hidle.symm.trans hactive) Bool.false_ne_true
    · omega
    · omega
  · exact heq

/-- What the TX engine makes of its turn depends on the engine, on SAMPLE_RATE and on TXF only. -/
theorem txTurn_tx_congr {s t : State} (htx : t.tx = s.tx) (hrate : t.sampleRate = s.sampleRate)
    (htxf : t.bufByte .txf = s.bufByte .txf) : t.txTurn.tx = s.txTurn.tx := by
  have hready : t.txReady = s.txReady := by simp only [State.txReady, htx]
  simp only [State.txTurn, hready, apply_ite State.tx, State.txAdvance, State.fs, htx, hrate, htxf]

/-! ### A receive step neither reads nor writes the TX engine -/

/-- The state with another TX engine. -/
def State.withTx (s : State) (e : TxEngine) : State := { s with tx := e }

theorem ite_withTx {c : Prop} [Decidable c] (s t : State) (e : TxEngine) :
    (if c then s else t).withTx e = if c then s.withTx e else t.withTx e := apply_ite (State.withTx · e) c s t

theorem commitOutcome_withTx (s : State) (e : TxEngine) (raw cw : List Byte) (o : RsOutcome) :
    (s.withTx e).commitOutcome raw cw o = (s.commitOutcome raw cw o).withTx e := by
  cases o <;> simp only [State.commitOutcome, State.signal, State.setBuf, State.withTx]

theorem returnToSearch_withTx (s : State) (e : TxEngine) :
    (s.withTx e).returnToSearch = s.returnToSearch.withTx e := rfl

theorem commitPacket_withTx (s : State) (e : TxEngine) (raw : List Byte) :
    (s.withTx e).commitPacket raw = (s.commitPacket raw).withTx e := by
  simp only [State.commitPacket, commitOutcome_withTx, ← returnToSearch_withTx, ite_withTx]
  generalize s.commitOutcome raw (deinterleave raw) (rsDecode (deinterleave raw)) = committed
  rfl

theorem searchTick_withTx (s : State) (e : TxEngine) (j : Fin 8) :
    (s.withTx e).searchTick j = (s.searchTick j).withTx e := by
  simp only [State.searchTick, ite_withTx]
  rfl

theorem confirmTick_withTx (s : State) (e : TxEngine) (j : Fin 8) :
    (s.withTx e).confirmTick j = (s.confirmTick j).withTx e := by
  simp only [State.confirmTick, ite_withTx]
  rfl

theorem payloadTick_withTx (s : State) (e : TxEngine) (j : Fin 8) (b : Bool) :
    (s.withTx e).payloadTick j b = (s.payloadTick j b).withTx e := by
  simp only [State.payloadTick, ite_withTx, ← commitPacket_withTx]
  rfl

theorem controllerTick_withTx (s : State) (e : TxEngine) (j : Fin 8) (b : Bool) :
    (s.withTx e).controllerTick j b = (s.controllerTick j b).withTx e := by
  have hstate : (s.withTx e).rx.ctl.state = s.rx.ctl.state := rfl
  simp only [State.controllerTick, hstate]
  cases s.rx.ctl.state with
  | idle => rfl
  | search => exact searchTick_withTx s e j
  | confirm => exact confirmTick_withTx s e j
  | payload => exact payloadTick_withTx s e j b

theorem candidateTick_withTx (s : State) (e : TxEngine) : (s.withTx e).candidateTick = s.candidateTick.withTx e := by
  simp only [State.candidateTick, ← controllerTick_withTx]
  rfl

theorem rxConsume_withTx (s : State) (e : TxEngine) (x : Int) :
    (s.withTx e).rxConsume x = (s.rxConsume x).withTx e := by
  simp only [State.rxConsume, ite_withTx, ← candidateTick_withTx]
  rfl

theorem rxTurn_consumes {s : State} {x : Sample} {rest : List Sample} (hopen : s.rxEn = true)
    (hain : s.rx.ain = x :: rest) :
    s.rxTurn = State.rxConsume { s with rx := { s.rx with ain := rest } } x.toInt := by
  simp only [State.rxTurn, hopen, hain, if_true]

theorem rxTurn_waits {s : State} (h : s.rxReady = false) : s.rxTurn = s := by
  rcases s.rxTurn_cases with ⟨x, rest, hopen, hain, -⟩ | ⟨-, heq⟩
  · simp [State.rxReady, hopen, hain] at h
  · exact heq

theorem rxTurn_withTx (s : State) (e : TxEngine) : (s.withTx e).rxTurn = s.rxTurn.withTx e := by
  rcases s.rxTurn_cases with ⟨x, rest, hopen, hain, heq⟩ | ⟨hwait, heq⟩ <;> rw [heq]
  · rw [rxTurn_consumes (s := s.withTx e) hopen hain]
    exact rxConsume_withTx { s with rx := { s.rx with ain := rest } } e x.toInt
  · exact rxTurn_waits (s := s.withTx e) hwait

/-- The RX engine's turn writes no byte of TXF. -/
theorem rxTurn_bufByte_txf (s : State) : s.rxTurn.bufByte .txf = s.bufByte .txf := by
  have hreceived : ¬ Buf.Received .txf := by rintro (h | h | h) <;> cases h
  funext i
  simp only [State.bufByte]
  split
  next hi => exact (rxTurn_writtenIn s).read_other hreceived hi
  next => rfl

/-- Either order gives the RX engine's turn with the TX engine of the TX engine's turn. -/
theorem txTurn_rxTurn_comm (s : State) : s.txTurn.rxTurn = s.rxTurn.txTurn := by
  have hkeeps := s.rxTurn_keeps
  calc s.txTurn.rxTurn = (s.withTx s.txTurn.tx).rxTurn := by rw [State.withTx, ← s.txTurn_eq]
    _ = s.rxTurn.withTx s.txTurn.tx := rxTurn_withTx s _
    _ = s.rxTurn.withTx s.rxTurn.txTurn.tx := by
      rw [txTurn_tx_congr hkeeps.tx hkeeps.sampleRate (rxTurn_bufByte_txf s)]
    _ = s.rxTurn.txTurn := s.rxTurn.txTurn_eq.symm

theorem step_txTurn {s : State} {rest : List Action} (hs : s.schedule = .txTurn :: rest) :
    step s = .next (State.txTurn { s with schedule := rest }) := step_of_schedule hs

/-- Settles O48: the turn is the engine's step or nothing, and the engines share no state that either writes. -/
theorem txTurnPushesASampleAndCommutesWithRx : Obligations.TxTurnPushesASampleAndCommutesWithRx := by
  refine ⟨fun s rest b hs hb => ⟨fun hactive hbit hroom => ?_, fun hwait => ?_⟩, txTurn_rxTurn_comm⟩
  · subst hb
    rw [step_txTurn hs, txTurn_pushes (s := { s with schedule := rest }) hactive hbit hroom, ← toneSample_eq]
    rfl
  · rw [step_txTurn hs, txTurn_waits (s := { s with schedule := rest }) hwait]

end Sys2Proof.Machine

/-! The demodulator's session (45_demodulator.md R550 to R557): each window sum is the exact sum over the delay line, whose
products are in range, and the tick accumulator stays below Fs; every step keeps this. -/

namespace Sys2Proof.Machine

/-! ### The products of a sample (45_demodulator.md R551, R552) -/

theorem sine_natAbs_le (i : Nat) : (sine i).natAbs ≤ 16384 := by
  have htable : ∀ k < 256, (sine k).natAbs ≤ 16384 := by decide +kernel
  have hperiod : sine i = sine (i % 256) := by simp only [sine, Nat.mod_mod]
  rw [hperiod]
  exact htable _ (Nat.mod_lt _ (by decide))

theorem sample_natAbs_le (x : Sample) : x.toInt.natAbs ≤ 32768 := by
  have hlo := x.le_toInt
  have hhi := x.toInt_lt
  omega

/-- The range of R552: the least sample times the least entry reaches 32768 itself. -/
theorem asr_product_natAbs_le {x c : Int} (hx : x.natAbs ≤ 32768) (hc : c.natAbs ≤ 16384) :
    (asr (x * c) 14).natAbs ≤ 32768 := by
  have hproduct : (x * c).natAbs ≤ 32768 * 16384 := by
    rw [Int.natAbs_mul]
    exact Nat.mul_le_mul hx hc
  generalize x * c = v at hproduct
  simp only [asr]
  omega

theorem FrontEnd.products_bounded (fe : FrontEnd) (x : Sample) : (fe.products x.toInt).Bounded :=
  have hsine (i : Nat) : (asr (x.toInt * sine i) 14).natAbs ≤ 32768 :=
    asr_product_natAbs_le (sample_natAbs_le x) (sine_natAbs_le i)
  ⟨hsine _, hsine _, hsine _, hsine _⟩

/-! ### The sum over the delay line (45_demodulator.md R553) -/

theorem Quad.total_cons (q : Quad) (l : List Quad) : Quad.total (q :: l) = q.add (Quad.total l) := rfl

theorem Quad.total_replicate_zero (n : Nat) : Quad.total (List.replicate n Quad.zero) = Quad.zero := by
  induction n with
  | zero => rfl
  | succ n ih => rw [List.replicate_succ, Quad.total_cons, ih]; rfl

/-- The sliding window: the new tuple comes in and the one it replaces goes out. -/
theorem Quad.total_set {l : List Quad} {i : Nat} (hi : i < l.length) (p : Quad) :
    Quad.total (l.set i p) = ((Quad.total l).add p).sub (l.getD i Quad.zero) := by
  induction l generalizing i with
  | nil => exact absurd hi (Nat.not_lt_zero i)
  | cons q l ih =>
    cases i with
    | zero =>
      simp only [List.set_cons_zero, List.getD_cons_zero, Quad.total_cons, Quad.add, Quad.sub, Quad.mk.injEq]
      omega
    | succ i =>
      simp only [List.set_cons_succ, List.getD_cons_succ, Quad.total_cons, ih (Nat.lt_of_succ_lt_succ hi), Quad.add,
        Quad.sub, Quad.mk.injEq]
      omega

/-! ### The front end -/

/-- The front end of a session at the rate fs: what `SessionOk` says of it, field by field. -/
structure FrontEnd.ExactAt (fs : Nat) (fe : FrontEnd) : Prop where
  n : fe.n = fs / Config.baud
  incM : fe.incM = ncoIncrement Config.markHz fs
  incS : fe.incS = ncoIncrement Config.spaceHz fs
  length : fe.dl.length = fe.n
  dpos : fe.dpos < fe.n
  acc : fe.acc = Quad.total fe.dl
  bounded : ∀ q ∈ fe.dl, q.Bounded

theorem FrontEnd.exactAt_opened {fs : Nat} (hfs : Config.baud ≤ fs) : (RxEngine.opened fs).fe.ExactAt fs where
  n := rfl
  incM := rfl
  incS := rfl
  length := List.length_replicate
  dpos := Nat.div_pos hfs (by decide)
  acc := (Quad.total_replicate_zero _).symm
  bounded q hq := by
    rw [List.eq_of_mem_replicate hq]
    decide

theorem FrontEnd.ExactAt.advance {fs : Nat} {fe : FrontEnd} (h : fe.ExactAt fs) (x : Sample) :
    (fe.advance x.toInt).ExactAt fs where
  n := h.n
  incM := h.incM
  incS := h.incS
  length := List.length_set.trans h.length
  dpos := Nat.mod_lt _ (Nat.zero_lt_of_lt h.dpos)
  acc := by
    have hdpos : fe.dpos < fe.dl.length := h.length ▸ h.dpos
    exact (h.acc ▸ Quad.total_set hdpos (fe.products x.toInt)).symm
  bounded q hq := by
    rcases List.mem_or_eq_of_mem_set hq with hold | rfl
    · exact h.bounded q hold
    · exact fe.products_bounded x

/-! ### What a receive step does to the demodulator (46_rx_controller.md R601) -/

/-- The front end and the tick accumulator. -/
def State.demodulator (s : State) : FrontEnd × Nat := (s.rx.fe, s.rx.pacc)

theorem State.commitOutcome_demodulator (s : State) (raw cw : List Byte) (o : RsOutcome) :
    (s.commitOutcome raw cw o).demodulator = s.demodulator := by
  cases o <;> simp [State.demodulator, State.commitOutcome]

theorem State.commitPacket_demodulator (s : State) (raw : List Byte) :
    (s.commitPacket raw).demodulator = s.demodulator := by
  simp only [State.commitPacket]
  generalize rsDecode (deinterleave raw) = o
  split <;> exact s.commitOutcome_demodulator raw (deinterleave raw) o

theorem State.searchTick_demodulator (s : State) (j : Fin 8) : (s.searchTick j).demodulator = s.demodulator := by
  simp only [State.searchTick]
  split <;> rfl

theorem State.confirmTick_demodulator (s : State) (j : Fin 8) : (s.confirmTick j).demodulator = s.demodulator := by
  simp only [State.confirmTick]
  split <;> rfl

theorem State.payloadTick_demodulator (s : State) (j : Fin 8) (b : Bool) :
    (s.payloadTick j b).demodulator = s.demodulator := by
  simp only [State.payloadTick]
  split
  · split
    · rfl
    · split
      · exact State.commitPacket_demodulator _ _
      · rfl
  · rfl

/-- The controller changes the candidates and itself only. -/
theorem State.controllerTick_demodulator (s : State) (j : Fin 8) (b : Bool) :
    (s.controllerTick j b).demodulator = s.demodulator := by
  unfold State.controllerTick
  split
  · rfl
  · exact s.searchTick_demodulator j
  · exact s.confirmTick_demodulator j
  · exact s.payloadTick_demodulator j b

/-- The tick accumulator after one more sample (45_demodulator.md R557). -/
def tickAccumulator (fs pacc : Nat) : Nat :=
  if fs ≤ pacc + tickIncrement then pacc + tickIncrement - fs else pacc + tickIncrement

theorem tickAccumulator_lt {fs pacc : Nat} (hfs : tickIncrement ≤ fs) (h : pacc < fs) : tickAccumulator fs pacc < fs := by
  unfold tickAccumulator
  split <;> omega

theorem State.rxConsume_demodulator (s : State) (x : Int) :
    (s.rxConsume x).demodulator = (s.rx.fe.advance x, tickAccumulator s.fs s.rx.pacc) := by
  simp only [State.rxConsume, tickAccumulator]
  split
  · exact State.controllerTick_demodulator _ _ _
  · rfl

/-! ### The session -/

/-- A legal SAMPLE_RATE is at least the increment of the tick accumulator, so that one subtraction brings it below Fs. -/
theorem State.ConfigOk.tickIncrement_le {s : State} (h : s.ConfigOk) : tickIncrement ≤ s.fs :=
  have ⟨hmin, _, _⟩ := h
  Nat.le_trans (by decide) hmin

theorem State.sessionOk_iff (s : State) :
    s.SessionOk ↔ (s.rxEn = true → s.rx.fe.ExactAt s.fs ∧ s.rx.pacc < s.fs) := by
  constructor <;> intro h hopen
  · obtain ⟨hn, hincM, hincS, hlength, hdpos, hacc, hbounded, hpacc⟩ := h hopen
    exact ⟨⟨hn, hincM, hincS, hlength, hdpos, hacc, hbounded⟩, hpacc⟩
  · obtain ⟨⟨hn, hincM, hincS, hlength, hdpos, hacc, hbounded⟩, hpacc⟩ := h hopen
    exact ⟨hn, hincM, hincS, hlength, hdpos, hacc, hbounded, hpacc⟩

/-- The configuration is legal and an open session is exact. -/
def State.SessionExact (s : State) : Prop := s.ConfigOk ∧ s.SessionOk

/-- Exactness speaks of SAMPLE_RATE, RX_CFG, RX_EN and the demodulator only. -/
theorem State.SessionExact.frame {s t : State} (h : s.SessionExact) (hrate : t.sampleRate = s.sampleRate)
    (hcfg : t.rxCfg = s.rxCfg) (hrxEn : t.rxEn = s.rxEn) (hdem : t.demodulator = s.demodulator) : t.SessionExact := by
  obtain ⟨hfe, hpacc⟩ := Prod.mk.inj hdem
  simpa only [State.SessionExact, State.ConfigOk, State.SessionOk, State.fs, hrate, hcfg, hrxEn, hfe, hpacc] using h

/-- With no session open there is nothing to keep exact. -/
theorem State.SessionExact.of_closed {s : State} (hcfg : s.ConfigOk) (hclosed : s.rxEn = false) : s.SessionExact :=
  ⟨hcfg, fun hopen => absurd (hclosed.symm.trans hopen) Bool.false_ne_true⟩

theorem resetBlock_sessionExact (s : State) : s.resetBlock.SessionExact := ⟨reset_configOk, reset_sessionOk⟩

/-- A session opens with a delay line of zeros, whose sum is zero (46_rx_controller.md R602). -/
theorem openSession_sessionExact {s : State} (hcfg : s.ConfigOk) : s.openSession.SessionExact :=
  have hpositive : 0 < s.fs := Nat.lt_of_lt_of_le (by decide) hcfg.baud_le
  ⟨hcfg, s.openSession.sessionOk_iff.2 fun _ => ⟨FrontEnd.exactAt_opened hcfg.baud_le, hpositive⟩⟩

theorem popAout_sessionExact {s : State} (h : s.SessionExact) : s.popAout.2.SessionExact := by
  rcases s.popAout_cases with ⟨-, -, heq⟩ | ⟨-, -, heq⟩ | ⟨x, rest, -, heq⟩ <;> rw [heq]
  · exact h.frame rfl rfl rfl rfl
  · exact h
  · rcases State.txComplete_cases { s with tx := { s.tx with aout := rest } } with ⟨-, -, -, heq⟩ | ⟨-, heq⟩
      <;> rw [heq]
    · exact h.frame rfl rfl rfl rfl
    · exact h.frame rfl rfl rfl rfl

/-- A consumed sample slides the window, and the accumulator gives up Fs where it reaches it. -/
theorem rxConsume_sessionExact {s : State} (h : s.SessionExact) (x : Sample) :
    (s.rxConsume x.toInt).SessionExact := by
  have hkeeps := s.rxConsume_keeps x.toInt
  obtain ⟨hfe, hpacc⟩ := Prod.mk.inj (s.rxConsume_demodulator x.toInt)
  obtain ⟨hcfg, hsession⟩ := h
  refine ⟨?_, (State.sessionOk_iff _).2 fun hopen => ?_⟩
  · simpa only [State.ConfigOk, State.fs, hkeeps.sampleRate, hkeeps.rxCfg] using hcfg
  · obtain ⟨hexact, hbelow⟩ := s.sessionOk_iff.1 hsession (hkeeps.rxEn ▸ hopen)
    have hfs : (s.rxConsume x.toInt).fs = s.fs := congrArg BitVec.toNat hkeeps.sampleRate
    rw [hfe, hpacc, hfs]
    exact ⟨hexact.advance x, tickAccumulator_lt hcfg.tickIncrement_le hbelow⟩

theorem rxTurn_sessionExact {s : State} (h : s.SessionExact) : s.rxTurn.SessionExact := by
  rcases s.rxTurn_cases with ⟨x, rest, -, -, heq⟩ | ⟨-, heq⟩ <;> rw [heq]
  · exact rxConsume_sessionExact (s := { s with rx := { s.rx with ain := rest } }) (h.frame rfl rfl rfl rfl) x
  · exact h

/-! ### Commands, writes and turns -/

@[simp] theorem State.commitDecode_rxEn (s : State) (o : RsOutcome) : (s.commitDecode o).rxEn = s.rxEn := by
  cases o <;> simp [State.commitDecode]

@[simp] theorem State.commitDecode_rx (s : State) (o : RsOutcome) : (s.commitDecode o).rx = s.rx := by
  cases o <;> simp [State.commitDecode]

theorem State.Executed.sessionExact {s t : State} (ht : s.Executed t) (h : s.SessionExact) : t.SessionExact := by
  cases ht with
  | nothing | result | domainError | buffer | txBusy | txStarted | txAborted => exact h.frame rfl rfl rfl rfl
  | decoded => exact h.frame (by simp) (by simp) (by simp) (by simp [State.demodulator])
  | reopened =>
    obtain ⟨hcfg, -⟩ := h
    exact openSession_sessionExact hcfg
  | reset => exact resetBlock_sessionExact s

/-- SAMPLE_RATE and RX_CFG change only while no session is open. -/
theorem State.Written.sessionExact {s t : State} (ht : s.Written t) (h : s.SessionExact) : t.SessionExact := by
  have ⟨⟨hmin, hmax, hratio⟩, _⟩ := h
  cases ht with
  | command hexec => exact hexec.sessionExact h
  | refused | unchanged | errCleared | plain | acknowledged | overrun | pushed | word => exact h.frame rfl rfl rfl rfl
  | opened => exact openSession_sessionExact ⟨hmin, hmax, hratio⟩
  | closed => exact .of_closed ⟨hmin, hmax, hratio⟩ rfl
  | rateSet v _ hclosed hmin hmax => exact .of_closed ⟨hmin, hmax, hratio⟩ hclosed
  | rxCfgSet c hclosed hratio => exact .of_closed ⟨hmin, hmax, hratio⟩ hclosed

theorem State.Performed.sessionExact {s t : State} (ht : s.Performed t) (h : s.SessionExact) : t.SessionExact := by
  cases ht with
  | written hwritten => exact hwritten.sessionExact h
  | read | unmappedRead => exact h.frame rfl rfl rfl rfl
  | popped => exact (popAout_sessionExact h).frame rfl rfl rfl rfl
  | txTurn =>
    rw [s.txTurn_eq]
    exact h.frame rfl rfl rfl rfl
  | rxTurn => exact rxTurn_sessionExact h
  | hardReset => exact resetBlock_sessionExact s

/-- Settles O46: a session opens exact, a consumed sample keeps it exact (the legal SAMPLE_RATE bounds the accumulator),
and no other turn touches the demodulator of an open session. -/
theorem stepKeepsTheWindowSumsExact : Obligations.StepKeepsTheWindowSumsExact := fun _ _ hcfg hsession hstep =>
  have ⟨_, hkept⟩ := step_preserves (P := State.SessionExact) (fun _ _ h => h.frame rfl rfl rfl rfl)
    (fun _ _ h ht => ht.sessionExact h) ⟨hcfg, hsession⟩ hstep
  hkept

end Sys2Proof.Machine

/-! The session (46_rx_controller.md R600, R613): RX_RESET opens it again, and a write of AIN_DATA pushes a sample. -/

namespace Sys2Proof.Machine

theorem exec_rxReset (s : State) : exec .rxReset s = .next (if s.rxEn then s.openSession else s) := rfl

/-- Settles O33: the command is one test of RX_EN. -/
theorem rxResetReopensTheSession : Obligations.RxResetReopensTheSession := by
  refine ⟨rfl, fun s => ⟨fun hopen => ?_, fun hclosed => ?_⟩⟩
  · rw [exec_rxReset, if_pos hopen]
    rfl
  · rw [exec_rxReset, hclosed]
    rfl

theorem pushAin_closed {s : State} (hclosed : s.rxEn = false) (v : Word) : s.pushAin v = s.raiseError .rxDisabled := by
  simp only [State.pushAin, hclosed, if_true]

theorem pushAin_full {s : State} (hopen : s.rxEn = true) (hfull : s.rx.ain.length = Config.fifoDepth) (v : Word) :
    s.pushAin v = State.signal { s with overrunCnt := sat16Succ s.overrunCnt } .rxOverrun := by
  simp only [State.pushAin, hopen, Bool.true_eq_false, if_false, hfull, if_true]

theorem pushAin_room {s : State} (hopen : s.rxEn = true) (hroom : s.rx.ain.length ≠ Config.fifoDepth) (v : Word) :
    s.pushAin v = { s with rx := { s.rx with ain := s.rx.ain ++ [v.extractLsb' 0 16] } } := by
  simp only [State.pushAin, hopen, Bool.true_eq_false, if_false, hroom]

/-- A write that reaches AIN_DATA is the push. -/
theorem step_write_ain {s : State} {a : Addr} {v : Word} {rest : List Action} (hs : s.schedule = .write a v :: rest)
    (ha : target a = .reg .ainData) : step s = .next (State.pushAin { s with schedule := rest } v) := by
  rw [step_write hs, hostWrite_reg ha]
  rfl

/-- Settles O35: the push case by case. -/
theorem ainWritePushesASample : Obligations.AinWritePushesASample := by
  intro s a v rest hs haddr
  have ha : target a = .reg .ainData := (mask_eq_address_iff a .ainData).1 haddr
  rw [step_write_ain hs ha]
  refine ⟨fun hclosed => ?_, fun hopen hfull => ?_, fun hopen hroom => ?_⟩
  · rw [pushAin_closed (s := { s with schedule := rest }) hclosed]
  · rw [pushAin_full (s := { s with schedule := rest }) hopen hfull, ← sat16Succ_eq]
    rfl
  · rw [pushAin_room (s := { s with schedule := rest }) hopen hroom]

end Sys2Proof.Machine

/-! PAYLOAD (46_rx_controller.md R606 to R611): each decision of the locked candidate is stored, and then the payload is
abandoned, committed or goes on. -/

namespace Sys2Proof.Machine

/-! ### Return to search (46_rx_controller.md R611) -/

theorem clearFills_getElem (v : Vector Candidate 8) (j : Fin 8) : (clearFills v)[j] = { v[j] with fill := 0 } := by
  simp [clearFills, Candidate.clearFill]

theorem returnToSearch_cands (s : State) (j : Fin 8) :
    s.returnToSearch.rx.cands[j] = { s.rx.cands[j] with fill := 0 } := clearFills_getElem s.rx.cands j

/-! ### The ticks -/

theorem controllerTick_payload {s : State} (h : s.rx.ctl.state = .payload) (j : Fin 8) (b : Bool) :
    s.controllerTick j b = s.payloadTick j b := by
  simp only [State.controllerTick, h]

/-- The state after the decision b is stored as the next payload bit. -/
def State.withBit (s : State) (b : Bool) : State :=
  { s with rx := { s.rx with ctl := { s.rx.ctl with
    pbits := s.rx.ctl.pbits.set s.rx.ctl.pcount.val b s.rx.ctl.pcount.isLt } } }

/-- The state after the decision b is stored and counted. -/
def State.withNextBit (s : State) (b : Bool) : State :=
  { s with rx := { s.rx with ctl := { s.rx.ctl with
    pbits := s.rx.ctl.pbits.set s.rx.ctl.pcount.val b s.rx.ctl.pcount.isLt, pcount := s.rx.ctl.pcount + 1 } } }

theorem payloadTick_other {s : State} {j : Fin 8} (h : j ≠ s.rx.ctl.lock) (b : Bool) : s.payloadTick j b = s := by
  simp only [State.payloadTick, h, if_false]

theorem payloadTick_bad {s : State} (hq : s.rx.cands[s.rx.ctl.lock].qualOk s.rxCfg = false) (b : Bool) :
    s.payloadTick s.rx.ctl.lock b = (s.withBit b).loseLock := by
  simp only [State.payloadTick, if_true, hq, State.withBit]

theorem payloadTick_last {s : State} (hq : s.rx.cands[s.rx.ctl.lock].qualOk s.rxCfg = true)
    (hlast : s.rx.ctl.pcount.val = 511) (b : Bool) :
    s.payloadTick s.rx.ctl.lock b =
      (s.withBit b).commitPacket (assemblePayload (s.withBit b).rx.ctl.pbits.toList) := by
  have h512 : s.rx.ctl.pcount.val + 1 = 512 := by omega
  simp only [State.payloadTick, if_true, hq, Bool.true_eq_false, if_false, h512, State.withBit]

theorem payloadTick_more {s : State} (hq : s.rx.cands[s.rx.ctl.lock].qualOk s.rxCfg = true)
    (hmore : s.rx.ctl.pcount.val ≠ 511) (b : Bool) : s.payloadTick s.rx.ctl.lock b = s.withNextBit b := by
  have h512 : ¬ s.rx.ctl.pcount.val + 1 = 512 := by omega
  simp only [State.payloadTick, if_true, hq, Bool.true_eq_false, if_false, h512, State.withNextBit]

/-- The abandoned payload is counted, and the search starts again (46_rx_controller.md R607, R611). -/
theorem withBit_loseLock (s : State) (b : Bool) :
    (s.withBit b).loseLock = { s with
      truncCnt := sat16Succ s.truncCnt,
      rx := { s.rx with cands := clearFills s.rx.cands, ctl := { s.rx.ctl with
        state := .search, pcount := 0, lock := 0, confBest := 0, confScore := 0, confLeft := 0,
        pbits := s.rx.ctl.pbits.set s.rx.ctl.pcount.val b s.rx.ctl.pcount.isLt } } } := rfl

/-- Settles O39: PAYLOAD case by case, but for the 512th good bit. -/
theorem payloadTickCollectsOrAbandons : Obligations.PayloadTickCollectsOrAbandons := by
  intro s b hs
  refine ⟨fun j hj => ?_, fun hq hmore => ?_, fun hq => ⟨(s.withBit b).loseLock, ?_, ?_, fun j => ?_⟩⟩
  · rw [controllerTick_payload hs, payloadTick_other hj]
  · rw [controllerTick_payload hs, payloadTick_more hq (by omega)]
    rfl
  · rw [controllerTick_payload hs, payloadTick_bad hq]
  · rw [withBit_loseLock, sat16Succ_eq]
  · exact returnToSearch_cands _ j

/-! ### The received packet (46_rx_controller.md R608) -/

/-- Bits accumulated from the most significant one weigh 128, 64 and so on. -/
theorem foldl_bits_eq_weights (f : Nat → Bool) {k : Nat} (hk : k ≤ 8) :
    2 ^ (8 - k) * ((List.range k).map f).foldl (fun acc b => 2 * acc + b.toNat) 0 =
      ((List.range k).map (fun b => if f b then 2 ^ (7 - b) else 0)).sum := by
  induction k with
  | zero => rfl
  | succ k ih =>
    have hweight : 8 - k = (7 - k) + 1 := by omega
    have hhere : 8 - (k + 1) = 7 - k := by omega
    have hrest := ih (by omega)
    rw [hweight, pow_succ] at hrest
    rw [List.range_succ, List.map_append, List.map_append, List.foldl_append, List.sum_append, ← hrest, hhere]
    cases hf : f k <;> simp [hf] <;> ring

theorem byteOfBits_eq_weighedByte (bits : List Bool) (q : Nat) :
    byteOfBits ((List.range 8).map (fun b => bits.getD (8 * q + b) false)) =
      weighedByte ((bits.drop (8 * q)).take 8) := by
  have hbit : ∀ b < 8, ((bits.drop (8 * q)).take 8).getD b false = bits.getD (8 * q + b) false := by
    intro b hb
    simp [List.getD_eq_getElem?_getD, hb]
  have hsum := foldl_bits_eq_weights (fun b => bits.getD (8 * q + b) false) (le_refl 8)
  have hweights : (List.range 8).map (fun b => if ((bits.drop (8 * q)).take 8).getD b false then 2 ^ (7 - b) else 0) =
      (List.range 8).map (fun b => if bits.getD (8 * q + b) false then 2 ^ (7 - b) else 0) :=
    List.map_congr_left fun b hb => by rw [hbit b (List.mem_range.1 hb)]
  rw [byteOfBits, weighedByte, hweights, ← hsum, Nat.sub_self, pow_zero, one_mul]

theorem assemblePayload_eq (bits : List Bool) :
    assemblePayload bits = (List.range 64).map (fun q => weighedByte ((bits.drop (8 * q)).take 8)) :=
  List.map_congr_left fun q _ => byteOfBits_eq_weighedByte bits q

/-- The 512 bits once the decision b is stored as the last one are the bits of the received packet. -/
theorem assemblePayload_withBit {s : State} {b : Bool} (hlast : s.rx.ctl.pcount.val = 511) :
    assemblePayload (s.withBit b).rx.ctl.pbits.toList =
      (List.range 64).map (fun q => weighedByte (((s.rx.ctl.pbits.toList.set 511 b).drop (8 * q)).take 8)) := by
  simp only [State.withBit, Vector.toList_set, hlast, assemblePayload_eq]

/-! ### The commit (46_rx_controller.md R609) -/

/-- The state with the three buffers of a received packet written. -/
def State.storePacket (s : State) (raw cw data : List Byte) : State :=
  ((s.setBuf .rxRaw raw).setBuf .rxCw cw).setBuf .rxData data

theorem storePacket_bufBytes {s : State} (hwf : s.mem.wf = true) {raw cw data : List Byte} (hraw : raw.length = 64)
    (hcw : cw.length = 64) (hdata : data.length = 48) :
    (s.storePacket raw cw data).bufBytes .rxRaw = raw ∧ (s.storePacket raw cw data).bufBytes .rxCw = cw ∧
      (s.storePacket raw cw data).bufBytes .rxData = data := by
  have hwfRaw : (s.setBuf .rxRaw raw).mem.wf = true := State.setBuf_wf hwf
  unfold State.storePacket
  refine ⟨?_, ?_, bufBytes_setBuf_same (State.setBuf_wf hwfRaw) hdata⟩
  · rw [bufBytes_setBuf_other (by decide), bufBytes_setBuf_other (by decide), bufBytes_setBuf_same hwf hraw]
  · rw [bufBytes_setBuf_other (by decide), bufBytes_setBuf_same hwfRaw hcw]

/-- IRQ_STATUS after a commit with the event e: RX_LOST joins it where a held result was replaced. -/
def State.irqAfterCommit (s : State) (e : Event) : BitVec 7 :=
  if s.rxResult.valid then s.irqStatus ||| e.mask ||| Event.rxLost.mask else s.irqStatus ||| e.mask

theorem irqAfterCommit_delivered (s : State) :
    s.irqAfterCommit .rxDelivered = s.irqStatus ||| (if s.rxResult.valid then 0x41#7 else 0x01#7) := by
  unfold State.irqAfterCommit
  split
  · exact BitVec.or_assoc ..
  · rfl

theorem irqAfterCommit_failed (s : State) :
    s.irqAfterCommit .rxFailed = s.irqStatus ||| (if s.rxResult.valid then 0x42#7 else 0x02#7) := by
  unfold State.irqAfterCommit
  split
  · exact BitVec.or_assoc ..
  · rfl

/-- The state after a commit: the buffers, RX_RESULT, the two counters and IRQ_STATUS, and the search started again. -/
def State.committed (s : State) (raw cw data : List Byte) (result : RxResult) (deliv fail : BitVec 16) (e : Event) :
    State :=
  { s with
    mem := (s.storePacket raw cw data).mem, rxResult := result, delivCnt := deliv, failCnt := fail,
    irqStatus := s.irqAfterCommit e, rx := s.returnToSearch.rx }

/-- The event of the outcome, then RX_LOST where a held result was replaced, then the return to search. -/
theorem returnToSearch_signalled (s : State) (raw cw data : List Byte) (result : RxResult) (deliv fail : BitVec 16)
    (e : Event) :
    State.returnToSearch
        (if s.rxResult.valid then
          (State.signal { s.storePacket raw cw data with rxResult := result, delivCnt := deliv, failCnt := fail }
            e).signal .rxLost
        else State.signal { s.storePacket raw cw data with rxResult := result, delivCnt := deliv, failCnt := fail } e) =
      s.committed raw cw data result deliv fail e := by
  simp only [State.committed, State.irqAfterCommit]
  split <;> simp only [State.returnToSearch, State.signal, State.storePacket, State.setBuf]

theorem commitPacket_success (s : State) {raw data cw : List Byte} {count : Nat}
    (h : rsDecode (deinterleave raw) = .success data cw count) :
    s.commitPacket raw = s.committed raw cw data (s.rxResult.replace true (BitVec.ofNat 4 count) .none)
      (sat16Succ s.delivCnt) s.failCnt .rxDelivered := by
  rw [← returnToSearch_signalled]
  simp only [State.commitPacket, h, State.commitOutcome, State.storePacket, State.setBuf_failCnt]

theorem commitPacket_uncorrectable (s : State) {raw : List Byte} {reason : FailReason}
    (h : rsDecode (deinterleave raw) = .uncorrectable reason) :
    s.commitPacket raw = s.committed raw (deinterleave raw) (List.replicate 48 0#8)
      (s.rxResult.replace false 0#4 reason) s.delivCnt (sat16Succ s.failCnt) .rxFailed := by
  rw [← returnToSearch_signalled]
  simp only [State.commitPacket, h, State.commitOutcome, State.storePacket, State.setBuf_delivCnt]

/-- Whatever the outcome, a commit is one of these states, and what it stores fills the three buffers. -/
theorem commitPacket_cases (s : State) (raw : List Byte) :
    ∃ (cw data : List Byte) (result : RxResult) (deliv fail : BitVec 16) (e : Event),
      cw.length = 64 ∧ data.length = 48 ∧ s.commitPacket raw = s.committed raw cw data result deliv fail e := by
  cases h : rsDecode (deinterleave raw) with
  | success data cw count =>
    obtain ⟨hcw, hdata⟩ := rsDecode_success_length (deinterleave_length raw) h
    exact ⟨_, _, _, _, _, _, hcw, by simp [hdata, hcw], commitPacket_success s h⟩
  | uncorrectable reason =>
    exact ⟨_, _, _, _, _, _, deinterleave_length raw, List.length_replicate, commitPacket_uncorrectable s h⟩

/-- What a commit leaves unchanged. -/
theorem commitPacket_eq (s : State) (raw : List Byte) :
    s.commitPacket raw = { s with
      mem := (s.commitPacket raw).mem, rxResult := (s.commitPacket raw).rxResult,
      irqStatus := (s.commitPacket raw).irqStatus, delivCnt := (s.commitPacket raw).delivCnt,
      failCnt := (s.commitPacket raw).failCnt, rx := s.returnToSearch.rx } := by
  obtain ⟨cw, data, result, deliv, fail, e, -, -, heq⟩ := commitPacket_cases s raw
  rw [heq]
  rfl

theorem commitPacket_rx (s : State) (raw : List Byte) : (s.commitPacket raw).rx = s.returnToSearch.rx := by
  rw [commitPacket_eq]

theorem Buf.Received.mem {b : Buf} (h : b.Received) : b ∈ [Buf.rxRaw, .rxCw, .rxData] := by
  simpa [Buf.Received] using h

theorem commitPacket_sameOutside (s : State) (raw : List Byte) :
    s.sameOutside (s.commitPacket raw) [.rxRaw, .rxCw, .rxData] :=
  (commitPacket_writtenIn .same raw).sameOutside fun _ => Buf.Received.mem

theorem committed_bufBytes (s : State) (raw cw data : List Byte) (result : RxResult) (deliv fail : BitVec 16)
    (e : Event) (b : Buf) :
    (s.committed raw cw data result deliv fail e).bufBytes b = (s.storePacket raw cw data).bufBytes b :=
  State.bufBytes_congr rfl b

theorem commitPacket_bufBytes_rxRaw {s : State} (hwf : s.mem.wf = true) {raw : List Byte} (hraw : raw.length = 64) :
    (s.commitPacket raw).bufBytes .rxRaw = raw := by
  obtain ⟨cw, data, result, deliv, fail, e, hcw, hdata, heq⟩ := commitPacket_cases s raw
  obtain ⟨hbytes, -, -⟩ := storePacket_bufBytes hwf hraw hcw hdata
  rw [heq, committed_bufBytes, hbytes]

/-- Settles O40: the 512 bits are the packet, and the commit follows the outcome of its decode. -/
theorem lastPayloadBitCommitsThePacket : Obligations.LastPayloadBitCommitsThePacket := by
  intro s b bits raw hwf hs hlast hq hbits hraw
  subst hbits
  have hassembled : assemblePayload (s.withBit b).rx.ctl.pbits.toList = raw :=
    (assemblePayload_withBit hlast).trans hraw.symm
  have hlen : raw.length = 64 := by rw [← hassembled, assemblePayload_length]
  have hwfBit : (s.withBit b).mem.wf = true := hwf
  refine ⟨(s.withBit b).commitPacket raw, ?_, commitPacket_bufBytes_rxRaw hwfBit hlen,
    (commitPacket_writtenIn .same raw).wf hwfBit, commitPacket_sameOutside (s.withBit b) raw, ?_, fun j => ?_,
    fun data cw count h => ?_, fun reason h => ?_⟩
  · rw [controllerTick_payload hs, payloadTick_last hq hlast, hassembled]
  · rw [commitPacket_rx]
    exact commitPacket_eq (s.withBit b) raw
  · rw [commitPacket_rx]
    exact returnToSearch_cands (s.withBit b) j
  · obtain ⟨hcw, hdata⟩ := rsDecode_success_length (deinterleave_length raw) h
    obtain ⟨-, hcwBytes, hdataBytes⟩ :=
      storePacket_bufBytes hwfBit hlen hcw (show data.length = 48 by simp [hdata, hcw])
    rw [commitPacket_success _ h, committed_bufBytes, committed_bufBytes, ← sat16Succ_eq]
    exact ⟨hcwBytes, hdataBytes, rfl, rfl, rfl, irqAfterCommit_delivered s⟩
  · obtain ⟨-, hcwBytes, hdataBytes⟩ :=
      storePacket_bufBytes hwfBit hlen (deinterleave_length raw) (List.length_replicate (n := 48) (a := 0#8))
    rw [commitPacket_uncorrectable _ h, committed_bufBytes, committed_bufBytes, ← sat16Succ_eq]
    exact ⟨hcwBytes, hdataBytes, rfl, rfl, rfl, irqAfterCommit_failed s⟩

end Sys2Proof.Machine

/-! One step of the RX engine (46_rx_controller.md R601, in the order of 45_demodulator.md R562): the front end, the tick
schedule and the candidate's update, written out. -/

namespace Sys2Proof.Machine

/-! ### The front end (45_demodulator.md R551 to R554) -/

/-- The products, with the table index as the top 8 bits of the phase. -/
theorem FrontEnd.products_eq (fe : FrontEnd) (x : Int) :
    fe.products x =
      { mi := x * cosine (fe.psiM.toNat / 2 ^ 24) / 2 ^ 14, mq := x * sine (fe.psiM.toNat / 2 ^ 24) / 2 ^ 14,
        si := x * cosine (fe.psiS.toNat / 2 ^ 24) / 2 ^ 14, sq := x * sine (fe.psiS.toNat / 2 ^ 24) / 2 ^ 14 } := by
  simp only [FrontEnd.products, asr, phaseIndex, BitVec.toNat_ushiftRight, Nat.shiftRight_eq_div_pow]

theorem FrontEnd.markEnergy_eq (fe : FrontEnd) : (fe.markEnergy : Int) = fe.acc.mi ^ 2 + fe.acc.mq ^ 2 := by
  simp [FrontEnd.markEnergy]

theorem FrontEnd.spaceEnergy_eq (fe : FrontEnd) : (fe.spaceEnergy : Int) = fe.acc.si ^ 2 + fe.acc.sq ^ 2 := by
  simp [FrontEnd.spaceEnergy]

theorem FrontEnd.discriminant_eq (fe : FrontEnd) :
    fe.discriminant = (fe.acc.mi ^ 2 + fe.acc.mq ^ 2) - (fe.acc.si ^ 2 + fe.acc.sq ^ 2) := by
  rw [FrontEnd.discriminant, fe.markEnergy_eq, fe.spaceEnergy_eq]

theorem FrontEnd.totalEnergy_eq (fe : FrontEnd) :
    (fe.totalEnergy : Int) = (fe.acc.mi ^ 2 + fe.acc.mq ^ 2) + (fe.acc.si ^ 2 + fe.acc.sq ^ 2) := by
  rw [FrontEnd.totalEnergy, Nat.cast_add, fe.markEnergy_eq, fe.spaceEnergy_eq]

/-! ### The candidate's update (43_framer.md R456; 45_demodulator.md R558, R559) -/

theorem Candidate.update_eq (c : Candidate) (d : Int) (t : Nat) :
    c.update d t =
      { sr := (c.sr <<< 1) ||| (if 0 < d then 1#16 else 0#16), fill := min (c.fill + 1) 16,
        ah := c.ah.set c.hpos.val d.natAbs c.hpos.isLt, th := c.th.set c.hpos.val t c.hpos.isLt,
        hpos := c.hpos + 1 } := by
  have hbit : (BitVec.ofBool (decideBit d)).setWidth 16 = if 0 < d then 1#16 else 0#16 := by
    by_cases h : 0 < d <;> simp [decideBit, h]
  rw [← hbit, Candidate.update]

/-! ### The step (46_rx_controller.md R601) -/

/-- The state with other samples in AIN. -/
def State.withAin (s : State) (ain : List Sample) : State := { s with rx := { s.rx with ain := ain } }

/-- The state after the front end and the tick accumulator have taken a sample, before the tick is decided. -/
def State.withSample (s : State) (x : Int) : State :=
  { s with rx := { s.rx with
    samples := s.rx.samples + 1#32, pacc := s.rx.pacc + tickIncrement, fe := s.rx.fe.advance x } }

theorem rxConsume_no_tick {s : State} (x : Int) (h : s.rx.pacc + tickIncrement < s.fs) :
    s.rxConsume x = s.withSample x := by
  have hno : ¬ s.fs ≤ s.rx.pacc + tickIncrement := by omega
  simp only [State.rxConsume, hno, if_false, State.withSample]

/-- At a tick the accumulator gives up Fs and the candidate whose turn it is takes the new discriminant. -/
theorem rxConsume_tick {s : State} (x : Int) (h : s.fs ≤ s.rx.pacc + tickIncrement) :
    s.rxConsume x = State.controllerTick { s.withSample x with rx := { (s.withSample x).rx with
        pacc := s.rx.pacc + tickIncrement - s.fs, cidx := s.rx.cidx + 1,
        cands := s.rx.cands.set s.rx.cidx.val
          (s.rx.cands[s.rx.cidx].update (s.rx.fe.advance x).discriminant (s.rx.fe.advance x).totalEnergy)
          s.rx.cidx.isLt } }
      s.rx.cidx (decideBit (s.rx.fe.advance x).discriminant) := by
  simp only [State.rxConsume, h, if_true, State.candidateTick, State.withSample]

/-- What a receive step can change: the RX engine, the buffers, RX_RESULT, IRQ_STATUS and the four receive counters. -/
theorem State.KeepsHostSide.eq {s t : State} (h : s.KeepsHostSide t) :
    t = { s with
      rx := t.rx, mem := t.mem, rxResult := t.rxResult, irqStatus := t.irqStatus, syncCnt := t.syncCnt,
      truncCnt := t.truncCnt, delivCnt := t.delivCnt, failCnt := t.failCnt } := by
  rw [← h.rxEn, ← h.err, ← h.irqEnable, ← h.sampleRate, ← h.rxCfg, ← h.gfA, ← h.gfB, ← h.gfR, ← h.rsResult,
    ← h.overrunCnt, ← h.tx, ← h.schedule, ← h.reads]

theorem rxTurn_sameOutside (s : State) : s.sameOutside s.rxTurn [.rxRaw, .rxCw, .rxData] :=
  (rxTurn_writtenIn s).sameOutside fun _ => Buf.Received.mem

theorem step_rxTurn {s : State} {rest : List Action} (hs : s.schedule = .rxTurn :: rest) :
    step s = .next (State.rxTurn { s with schedule := rest }) := step_of_schedule hs

/-- Settles O36: the step is the front end's advance and, at a tick, the controller's action. -/
theorem rxTurnConsumesTheOldestSample : Obligations.RxTurnConsumesTheOldestSample := by
  refine ⟨fun s x more rest hopen hain hs => ?_, fun s rest hs hwait => ?_⟩
  · have hturn : State.rxTurn { s with schedule := rest } =
        (State.withAin { s with schedule := rest } more).rxConsume x.toInt :=
      rxTurn_consumes (s := { s with schedule := rest }) hopen hain
    refine ⟨_, (State.withAin { s with schedule := rest } more).withSample x.toInt, s.rx.fe.products x.toInt, _, _,
      (s.rx.fe.advance x.toInt).discriminant, (s.rx.fe.advance x.toInt).totalEnergy, step_rxTurn hs,
      s.rx.fe.products_eq x.toInt, rfl, rfl, FrontEnd.discriminant_eq _, FrontEnd.totalEnergy_eq _, rfl,
      fun hno => ?_, fun htick => ?_, (State.rxTurn_keeps { s with schedule := rest }).eq,
      rxTurn_sameOutside { s with schedule := rest }⟩
    · exact hturn.trans (rxConsume_no_tick _ hno)
    · rw [hturn, rxConsume_tick (s := State.withAin { s with schedule := rest } more) _ htick, Candidate.update_eq]
      rfl
  · have hready : s.rxReady = false := by
      rcases hwait with hclosed | hempty
      · simp [State.rxReady, hclosed]
      · simp [State.rxReady, hempty]
    rw [step_rxTurn hs, rxTurn_waits (s := { s with schedule := rest }) hready]

end Sys2Proof.Machine

/-! The receive state space kept by every step (46_rx_controller.md R615; 10_state.md R103). -/

namespace Sys2Proof.Machine

/-! ### The RX engine of an open session -/

/-- What R615 and R103 say of the RX engine while a session is open. -/
structure RxEngine.InSession (rx : RxEngine) : Prop where
  active : rx.ctl.state ≠ .idle
  ain : rx.ain.length ≤ Config.fifoDepth
  confLeft : rx.ctl.state = .confirm → 1 ≤ rx.ctl.confLeft ∧ rx.ctl.confLeft ≤ 7
  pcount : rx.ctl.state ≠ .payload → rx.ctl.pcount = 0
  fill : ∀ j : Fin 8, rx.cands[j].fill ≤ 16

theorem State.ReceiveOk.inSession {s : State} (h : s.ReceiveOk) (hopen : s.rxEn = true) : s.rx.InSession := by
  obtain ⟨hidle, -, hain, hconf, hpcount, hfill⟩ := h
  exact ⟨fun hstate => absurd ((hidle.2 hstate).symm.trans hopen) Bool.false_ne_true, hain, hconf, hpcount, hfill⟩

theorem RxEngine.InSession.receiveOk {s : State} (h : s.rx.InSession) (hopen : s.rxEn = true) : s.ReceiveOk :=
  ⟨⟨fun hclosed => absurd (hclosed.symm.trans hopen) Bool.false_ne_true, fun hstate => absurd hstate h.active⟩,
    fun hclosed => absurd (hclosed.symm.trans hopen) Bool.false_ne_true, h.ain, h.confLeft, h.pcount, h.fill⟩

/-- A session opens in SEARCH with AIN empty and no window filled (46_rx_controller.md R602). -/
theorem RxEngine.opened_inSession (fs : Nat) : (RxEngine.opened fs).InSession where
  active := nofun
  ain := Nat.zero_le _
  confLeft := nofun
  pcount _ := rfl
  fill j := by simp [RxEngine.opened, Candidate.reset]

/-! ### The controller's ticks -/

theorem returnToSearch_inSession {s : State} (h : s.rx.InSession) : s.returnToSearch.rx.InSession where
  active := nofun
  ain := h.ain
  confLeft := nofun
  pcount _ := rfl
  fill j := by
    rw [returnToSearch_cands]
    exact Nat.zero_le _

/-- A match opens a window of 7 ticks; it leaves SEARCH, where pcount is 0. -/
theorem searchTick_inSession {s : State} (h : s.rx.InSession) (hs : s.rx.ctl.state = .search) (j : Fin 8) :
    (s.searchTick j).rx.InSession := by
  cases hm : s.rx.cands[j].syncMatch s.rxCfg with
  | false => rwa [searchTick_of_no_match hm]
  | true =>
    rw [searchTick_of_match hm]
    have hpcount : s.rx.ctl.pcount = 0 := h.pcount (by simp [hs])
    exact ⟨nofun, h.ain, fun _ => ⟨Nat.succ_pos 6, le_rfl⟩, fun _ => hpcount, h.fill⟩

/-- Every tick of the confirm window leaves some best candidate and score. -/
theorem confirmTick_withBest (s : State) (j : Fin 8) :
    ∃ (best : Fin 8) (score : Nat), s.confirmTick j =
      if s.rx.ctl.confLeft - 1 = 0 then (s.withBest best score).lockOn else s.withBest best score :=
  ⟨_, _, rfl⟩

/-- The window loses one tick, and at its last tick the state is PAYLOAD. -/
theorem confirmTick_inSession {s : State} (h : s.rx.InSession) (hs : s.rx.ctl.state = .confirm) (j : Fin 8) :
    (s.confirmTick j).rx.InSession := by
  obtain ⟨best, score, heq⟩ := confirmTick_withBest s j
  obtain ⟨-, hhigh⟩ := h.confLeft hs
  rw [heq]
  split
  next => exact ⟨nofun, h.ain, nofun, fun _ => rfl, h.fill⟩
  next hmore =>
    exact ⟨h.active, h.ain, fun _ => ⟨Nat.pos_of_ne_zero hmore, (Nat.sub_le ..).trans hhigh⟩, h.pcount, h.fill⟩

/-- A stored bit changes neither the state nor the ranges. -/
theorem withBit_inSession {s : State} (h : s.rx.InSession) (b : Bool) : (s.withBit b).rx.InSession :=
  ⟨h.active, h.ain, h.confLeft, h.pcount, h.fill⟩

theorem withNextBit_inSession {s : State} (h : s.rx.InSession) (hs : s.rx.ctl.state = .payload) (b : Bool) :
    (s.withNextBit b).rx.InSession :=
  ⟨h.active, h.ain, h.confLeft, fun hne => absurd hs hne, h.fill⟩

theorem payloadTick_inSession {s : State} (h : s.rx.InSession) (hs : s.rx.ctl.state = .payload) (j : Fin 8) (b : Bool) :
    (s.payloadTick j b).rx.InSession := by
  by_cases hj : j = s.rx.ctl.lock
  · subst hj
    have hbit := withBit_inSession h b
    cases hq : s.rx.cands[s.rx.ctl.lock].qualOk s.rxCfg with
    | false =>
      rw [payloadTick_bad hq]
      exact returnToSearch_inSession (s := { s.withBit b with truncCnt := sat16Succ s.truncCnt }) hbit
    | true =>
      by_cases hlast : s.rx.ctl.pcount.val = 511
      · rw [payloadTick_last hq hlast, commitPacket_rx]
        exact returnToSearch_inSession hbit
      · rw [payloadTick_more hq hlast]
        exact withNextBit_inSession h hs b
  · rwa [payloadTick_other hj]

theorem controllerTick_inSession {s : State} (h : s.rx.InSession) (j : Fin 8) (b : Bool) :
    (s.controllerTick j b).rx.InSession := by
  cases hs : s.rx.ctl.state with
  | idle => exact absurd hs h.active
  | search =>
    rw [controllerTick_search hs]
    exact searchTick_inSession h hs j
  | confirm =>
    rw [controllerTick_confirm hs]
    exact confirmTick_inSession h hs j
  | payload =>
    rw [controllerTick_payload hs]
    exact payloadTick_inSession h hs j b

/-! ### A receive step -/

/-- The candidate that ticks fills its window up to 16 (43_framer.md R456). -/
theorem set_update_fill_le {v : Vector Candidate 8} (h : ∀ j : Fin 8, v[j].fill ≤ 16) (i : Fin 8) (d : Int) (t : Nat)
    (j : Fin 8) : (v.set i.val (v[i].update d t) i.isLt)[j].fill ≤ 16 := by
  have hset : (v.set i.val (v[i].update d t) i.isLt)[j] = if i.val = j.val then v[i].update d t else v[j] :=
    Vector.getElem_set ..
  rw [hset]
  split
  · exact Nat.min_le_right ..
  · exact h j

theorem rxConsume_inSession {s : State} (h : s.rx.InSession) (x : Int) : (s.rxConsume x).rx.InSession := by
  by_cases htick : s.fs ≤ s.rx.pacc + tickIncrement
  · rw [rxConsume_tick x htick]
    refine controllerTick_inSession ?_ _ _
    exact ⟨h.active, h.ain, h.confLeft, h.pcount, set_update_fill_le h.fill _ _ _⟩
  · rw [rxConsume_no_tick x (Nat.lt_of_not_le htick)]
    exact ⟨h.active, h.ain, h.confLeft, h.pcount, h.fill⟩

theorem rxTurn_receiveOk {s : State} (h : s.ReceiveOk) : s.rxTurn.ReceiveOk := by
  rcases s.rxTurn_cases with ⟨x, rest, hopen, hain, heq⟩ | ⟨-, heq⟩
  · have hsession := h.inSession hopen
    have hlen : rest.length ≤ Config.fifoDepth := by
      have hall := hsession.ain
      rw [hain, List.length_cons] at hall
      omega
    have htaken : (s.withAin rest).rx.InSession :=
      ⟨hsession.active, hlen, hsession.confLeft, hsession.pcount, hsession.fill⟩
    refine RxEngine.InSession.receiveOk ?_ (s.rxTurn_keeps.rxEn.trans hopen)
    rw [heq]
    exact rxConsume_inSession htaken x.toInt
  · rwa [heq]

/-! ### Commands, writes and turns -/

/-- The state space speaks of RX_EN and the RX engine only. -/
theorem State.ReceiveOk.frame {s t : State} (h : s.ReceiveOk) (hrxEn : t.rxEn = s.rxEn) (hrx : t.rx = s.rx) :
    t.ReceiveOk := by
  simpa only [State.ReceiveOk, hrxEn, hrx] using h

theorem openSession_receiveOk {s : State} (hopen : s.rxEn = true) : s.openSession.ReceiveOk :=
  RxEngine.InSession.receiveOk (s := s.openSession) (RxEngine.opened_inSession s.fs) hopen

/-- Closing empties AIN and discards the payload, in IDLE (46_rx_controller.md R612). -/
theorem closeSession_receiveOk {s : State} (h : s.ReceiveOk) :
    (State.closeSession { s with rxEn := false }).ReceiveOk :=
  have ⟨_, _, _, _, _, hfill⟩ := h
  ⟨⟨fun _ => rfl, fun _ => rfl⟩, fun _ => rfl, Nat.zero_le _, nofun, fun _ => rfl, hfill⟩

/-- A sample joins AIN only below 1024 samples and with a session open. -/
theorem withAin_append_receiveOk {s : State} (h : s.ReceiveOk) (hopen : s.rxEn = true)
    (hroom : s.rx.ain.length ≠ Config.fifoDepth) (x : Sample) : (s.withAin (s.rx.ain ++ [x])).ReceiveOk := by
  have hsession := h.inSession hopen
  have hlen : (s.rx.ain ++ [x]).length ≤ Config.fifoDepth := by
    have hall := hsession.ain
    rw [List.length_append, List.length_singleton]
    omega
  exact RxEngine.InSession.receiveOk (s := s.withAin (s.rx.ain ++ [x]))
    ⟨hsession.active, hlen, hsession.confLeft, hsession.pcount, hsession.fill⟩ hopen

/-- A pop of AOUT touches no receive state. -/
theorem popAout_receiveOk {s : State} (h : s.ReceiveOk) : s.popAout.2.ReceiveOk := by
  rcases s.popAout_cases with ⟨-, -, heq⟩ | ⟨-, -, heq⟩ | ⟨x, rest, -, heq⟩ <;> rw [heq]
  · exact h.frame rfl rfl
  · exact h
  · rcases State.txComplete_cases { s with tx := { s.tx with aout := rest } } with ⟨-, -, -, heq⟩ | ⟨-, heq⟩
      <;> rw [heq]
    · exact h.frame rfl rfl
    · exact h.frame rfl rfl

theorem resetBlock_receiveOk (s : State) : s.resetBlock.ReceiveOk := reset_receiveOk

theorem State.Executed.receiveOk {s t : State} (ht : s.Executed t) (h : s.ReceiveOk) : t.ReceiveOk := by
  cases ht with
  | nothing | result | domainError | buffer | txBusy | txStarted | txAborted => exact h.frame rfl rfl
  | decoded => exact h.frame (by simp) (by simp)
  | reopened hopen => exact openSession_receiveOk hopen
  | reset => exact resetBlock_receiveOk s

theorem State.Written.receiveOk {s t : State} (ht : s.Written t) (h : s.ReceiveOk) : t.ReceiveOk := by
  cases ht with
  | command hexec => exact hexec.receiveOk h
  | refused | unchanged | errCleared | plain | rateSet | rxCfgSet | acknowledged | overrun | word =>
    exact h.frame rfl rfl
  | opened => exact openSession_receiveOk rfl
  | closed => exact closeSession_receiveOk h
  | pushed x hopen hroom => exact withAin_append_receiveOk h hopen hroom x

theorem State.Performed.receiveOk {s t : State} (ht : s.Performed t) (h : s.ReceiveOk) : t.ReceiveOk := by
  cases ht with
  | written hwritten => exact hwritten.receiveOk h
  | read | unmappedRead => exact h.frame rfl rfl
  | popped => exact (popAout_receiveOk h).frame rfl rfl
  | txTurn =>
    rw [s.txTurn_eq]
    exact h.frame rfl rfl
  | rxTurn => exact rxTurn_receiveOk h
  | hardReset => exact resetBlock_receiveOk s

/-- Settles O45: the controller's ticks keep an open session in the state space, opening and closing a session enter and
leave it, and no other turn touches the receive state but for a pushed sample. -/
theorem stepKeepsTheReceiveStateSpace : Obligations.StepKeepsTheReceiveStateSpace :=
  fun _ _ h hstep =>
    step_preserves (P := State.ReceiveOk) (fun _ _ h => h.frame rfl rfl) (fun _ _ h ht => ht.receiveOk h) h hstep

end Sys2Proof.Machine

/-! A Host read returns the fields of its register or the bytes of its word (47_register_access.md R650; 10_state.md
R61 to R83; 20_memory.md R153). -/

namespace Sys2Proof.Machine

/-! ### The fields of a register's image

An image is a row of fields of fixed widths, the low one last. A field is reached by dropping those below it (the lemmas
`_of_le`) and then those above it (`_of_add_le`). -/

/-- An image of two fields as a number: the low one, then the high one above its bits. -/
theorem toNat_append_eq_add {m n : Nat} (high : BitVec m) (low : BitVec n) :
    (high ++ low).toNat = low.toNat + 2 ^ n * high.toNat := by
  rw [BitVec.toNat_append, ← Nat.shiftLeft_add_eq_or_of_lt low.isLt, Nat.shiftLeft_eq, Nat.add_comm, Nat.mul_comm]

/-- Reserved bits above a field add nothing. -/
theorem toNat_zero_append (m : Nat) {n : Nat} (low : BitVec n) : (0#m ++ low).toNat = low.toNat := by
  rw [toNat_append_eq_add, BitVec.toNat_zero, Nat.mul_zero, Nat.add_zero]

theorem getLsbD_append_of_le {m n i : Nat} {high : BitVec m} {low : BitVec n} (h : n ≤ i) :
    (high ++ low).getLsbD i = high.getLsbD (i - n) := by
  rw [BitVec.getLsbD_append, if_neg (Nat.not_lt.2 h)]

/-- The lowest field, where it is one bit wide. -/
theorem getLsbD_append_ofBool {m : Nat} (high : BitVec m) (b : Bool) : (high ++ BitVec.ofBool b).getLsbD 0 = b := by
  rw [BitVec.getLsbD_append, if_pos Nat.one_pos, BitVec.getLsbD_ofBool]
  rfl

theorem ctrlWord_eq (s : State) : s.regWord .ctrl = if s.rxEn then 1#32 else 0#32 := by
  rw [State.regWord]
  cases s.rxEn <;> rfl

theorem statusWord_fields (s : State) :
    s.statusWord.getLsbD 0 = s.tx.active ∧ s.statusWord.getLsbD 1 = s.rxEn ∧
    s.statusWord.extractLsb' 2 2 = s.rx.ctl.state.toBits ∧
    s.statusWord.getLsbD 4 = decide (s.rx.ctl.state = .confirm) ∧
    s.statusWord.getLsbD 5 = decide (s.rx.ctl.state = .payload) ∧
    s.statusWord.getLsbD 6 = s.rxResult.valid ∧
    (s.statusWord.getLsbD 7 = true ↔ s.irqStatus &&& s.irqEnable ≠ 0#7) ∧
    s.statusWord.extractLsb' 8 24 = 0#24 := by
  simp (disch := decide) only [State.statusWord, getLsbD_append_of_le, getLsbD_append_ofBool,
    BitVec.extractLsb'_append_eq_of_le, BitVec.extractLsb'_append_eq_of_add_le, BitVec.extractLsb'_eq_self,
    Nat.reduceSub, State.irqOut, bne_iff_ne, beq_eq_decide, and_self]

theorem errWord_fields (r : ErrReg) :
    r.word.extractLsb' 0 8 = r.code.toByte ∧ r.word.getLsbD 8 = r.multi ∧ r.word.extractLsb' 9 23 = 0#23 := by
  simp (disch := decide) only [ErrReg.word, getLsbD_append_of_le, getLsbD_append_ofBool,
    BitVec.extractLsb'_append_eq_of_le, BitVec.extractLsb'_append_eq_of_add_le, BitVec.extractLsb'_eq_self,
    Nat.reduceSub, and_self]

theorem rxCfgWord_toNat (c : RxCfg) : c.word.toNat = c.syncTol.toNat + 2 ^ 4 * c.lockRatio.toNat := by
  simp only [RxCfg.word, toNat_append_eq_add, BitVec.toNat_zero]
  omega

theorem rsResultWord_fields (r : RsResult) :
    r.word.getLsbD 0 = r.ok ∧ r.word.extractLsb' 1 3 = 0#3 ∧ r.word.extractLsb' 4 4 = r.count ∧
    r.word.extractLsb' 8 2 = r.reason.toBits ∧ r.word.extractLsb' 10 22 = 0#22 := by
  simp (disch := decide) only [RsResult.word, getLsbD_append_ofBool,
    BitVec.extractLsb'_append_eq_of_le, BitVec.extractLsb'_append_eq_of_add_le, BitVec.extractLsb'_eq_self,
    Nat.reduceSub, and_self]

theorem rxResultWord_fields (r : RxResult) :
    r.word.getLsbD 0 = r.valid ∧ r.word.getLsbD 1 = r.ok ∧ r.word.extractLsb' 2 2 = 0#2 ∧
    r.word.extractLsb' 4 4 = r.count ∧ r.word.extractLsb' 8 2 = r.reason.toBits ∧
    r.word.extractLsb' 10 6 = 0#6 ∧ r.word.getLsbD 16 = r.lost ∧ r.word.extractLsb' 17 15 = 0#15 := by
  simp (disch := decide) only [RxResult.word, getLsbD_append_of_le, getLsbD_append_ofBool,
    BitVec.extractLsb'_append_eq_of_le, BitVec.extractLsb'_append_eq_of_add_le, BitVec.extractLsb'_eq_self,
    Nat.reduceSub, and_self]

theorem diagWord_fields (s : State) :
    s.diagWord.extractLsb' 0 3 = (if s.rx.ctl.state = .payload then BitVec.ofNat 3 s.rx.ctl.lock.val else 0#3) ∧
    s.diagWord.extractLsb' 3 1 = 0#1 ∧ s.diagWord.extractLsb' 4 3 = BitVec.ofNat 3 s.rx.cidx.val ∧
    s.diagWord.extractLsb' 7 1 = 0#1 ∧
    s.diagWord.extractLsb' 8 3 =
      (if s.rx.ctl.state = .confirm then BitVec.ofNat 3 s.rx.ctl.confBest.val else 0#3) ∧
    s.diagWord.extractLsb' 11 1 = 0#1 ∧
    s.diagWord.extractLsb' 12 3 = (if s.rx.ctl.state = .confirm then BitVec.ofNat 3 s.rx.ctl.confLeft else 0#3) ∧
    s.diagWord.extractLsb' 15 1 = 0#1 ∧
    s.diagWord.extractLsb' 16 9 = (if s.rx.ctl.state = .payload then BitVec.ofNat 9 s.rx.ctl.pcount.val else 0#9) ∧
    s.diagWord.extractLsb' 25 7 = 0#7 := by
  simp (disch := decide) only [State.diagWord, BitVec.extractLsb'_append_eq_of_le,
    BitVec.extractLsb'_append_eq_of_add_le, BitVec.extractLsb'_eq_self, Nat.reduceSub,
    apply_ite (BitVec.ofNat _), and_self]

theorem fifoLevelWord_fields (s : State) :
    s.fifoLevelWord.extractLsb' 0 11 = BitVec.ofNat 11 s.rx.ain.length ∧ s.fifoLevelWord.extractLsb' 11 5 = 0#5 ∧
    s.fifoLevelWord.extractLsb' 16 11 = BitVec.ofNat 11 s.tx.aout.length ∧
    s.fifoLevelWord.extractLsb' 27 5 = 0#5 := by
  simp (disch := decide) only [State.fifoLevelWord, BitVec.extractLsb'_append_eq_of_le,
    BitVec.extractLsb'_append_eq_of_add_le, BitVec.extractLsb'_eq_self, Nat.reduceSub, and_self]

theorem txStatWord_fields (s : State) :
    s.txStatWord.extractLsb' 0 10 = BitVec.ofNat 10 s.tx.k ∧ s.txStatWord.extractLsb' 10 22 = 0#22 := by
  simp (disch := decide) only [State.txStatWord, BitVec.extractLsb'_append_eq_of_le,
    BitVec.extractLsb'_append_eq_of_add_le, BitVec.extractLsb'_eq_self, Nat.reduceSub, and_self]

/-! ### The bytes of a buffer's word -/

/-- A word of a buffer starts at its address without bits 1:0. -/
theorem mask_toNat_of_word {a : Addr} {b : Buf} {w : Nat} (ha : target a = .word b w) :
    (a &&& 0xFFC#12).toNat = b.base + 4 * w := by
  obtain ⟨⟨hlow, -⟩, hw⟩ := target_eq_word_iff.1 ha
  have hb4 := b.base_mod_four
  rw [mask_toNat]
  omega

theorem bufWord_extract_byte (s : State) (b : Buf) (w : Nat) {i : Nat} (hi : i < 4) :
    (s.bufWord b w).extractLsb' (8 * i) 8 = s.bufByte b (4 * w + i) := by
  match i, hi with
  | 0, _ | 1, _ | 2, _ | 3, _ =>
    simp (disch := decide) only [State.bufWord, BitVec.extractLsb'_append_eq_of_le,
      BitVec.extractLsb'_append_eq_of_add_le, BitVec.extractLsb'_eq_self, Nat.reduceMul, Nat.reduceSub, Nat.add_zero]

/-- The high half of a word is its bytes 3 and 2. -/
theorem bufWord_extract_high (s : State) (b : Buf) (w : Nat) :
    (s.bufWord b w).extractLsb' 16 16 = s.bufByte b (4 * w + 3) ++ s.bufByte b (4 * w + 2) := by
  rw [State.bufWord, BitVec.append_assoc, BitVec.cast_eq, BitVec.extractLsb'_append_eq_left]

theorem bufByte_inside (s : State) {b : Buf} {i : Nat} (hi : i < b.size) :
    s.bufByte b i = s.mem.read (b.base + i) := if_pos hi

theorem bufByte_outside (s : State) {b : Buf} {i : Nat} (hi : b.size ≤ i) : s.bufByte b i = 0#8 :=
  if_neg (Nat.not_lt.2 hi)

theorem Buf.word_lt_words {a : Addr} {b : Buf} {w : Nat} (ha : target a = .word b w) : w < b.words := by
  obtain ⟨⟨hlow, hhigh⟩, hw⟩ := target_eq_word_iff.1 ha
  omega

/-- Only the last word of TXF, at 0x240, reaches past its buffer's end (20_memory.md R153). -/
theorem Buf.word_end_le_of_ne {a : Addr} {b : Buf} {w : Nat} (ha : target a = .word b w)
    (hne : a &&& 0xFFC#12 ≠ 0x240#12) : 4 * w + 4 ≤ b.size := by
  have hlt := Buf.word_lt_words ha
  have haddr := mask_toNat_of_word ha
  have hlast : (a &&& 0xFFC#12).toNat ≠ 0x240 := fun h => hne (BitVec.eq_of_toNat_eq h)
  cases b with
  | txf =>
    have hbase : Buf.base .txf = 0x200 := rfl
    simp only [Buf.words, Buf.size] at hlt ⊢
    omega
  | msg | cw | syn | rxRaw | rxCw | rxData =>
    simp only [Buf.words, Buf.size] at hlt ⊢
    omega

/-- A word that lies whole in its buffer is read as the four bytes at its address. -/
theorem hostRead_word_bytes (s : State) {a : Addr} {b : Buf} {w : Nat} (ha : target a = .word b w)
    (hne : a &&& 0xFFC#12 ≠ 0x240#12) {i : Nat} (hi : i < 4) :
    (s.hostRead a).1.extractLsb' (8 * i) 8 = s.mem.read ((a &&& 0xFFC#12).toNat + i) := by
  have hend := Buf.word_end_le_of_ne ha hne
  rw [hostRead_word ha, bufWord_extract_byte s b w hi, bufByte_inside s (by omega), mask_toNat_of_word ha,
    Nat.add_assoc]

theorem target_last_txf {a : Addr} (h : a &&& 0xFFC#12 = 0x240#12) : target a = .word .txf 16 := by
  rw [target_same_word h]
  decide

/-- The last word of TXF holds bytes 64 and 65, and 0 in its high half (20_memory.md R153). -/
theorem hostRead_last_txf (s : State) {a : Addr} (h : a &&& 0xFFC#12 = 0x240#12) :
    (s.hostRead a).1.extractLsb' 0 8 = s.mem.read 0x240 ∧ (s.hostRead a).1.extractLsb' 8 8 = s.mem.read 0x241 ∧
    (s.hostRead a).1.extractLsb' 16 16 = 0#16 := by
  rw [hostRead_word (target_last_txf h)]
  refine ⟨?_, ?_, ?_⟩
  · exact (bufWord_extract_byte s .txf 16 (i := 0) (by decide)).trans (bufByte_inside s (by decide))
  · exact (bufWord_extract_byte s .txf 16 (i := 1) (by decide)).trans (bufByte_inside s (by decide))
  · rw [bufWord_extract_high, bufByte_outside s (by decide), bufByte_outside s (by decide)]
    rfl

/-- The mapped addresses from 0x100 on reach a buffer. -/
theorem exists_target_word {a : Addr} (hmapped : target a ≠ .unmapped) (ha : 0x100 ≤ a.toNat) :
    ∃ b w, target a = .word b w := by
  rcases target_cases a with ⟨r, hreg, -⟩ | ⟨b, -, hb⟩ | ⟨-, -, hnone⟩
  · have hlen : regMap.length = 24 := rfl
    rw [wordIndex_eq] at hreg
    omega
  · exact ⟨b, _, hb⟩
  · exact absurd hnone hmapped

/-- Settles O57: the word read is the image of the register at the address, or the bytes of the buffer word there. -/
theorem readsReturnTheirFields : Obligations.ReadsReturnTheirFields := by
  intro s a rest hs hmapped haout
  have hreg (r : Reg) (h : a &&& 0xFFC#12 = r.address) : (s.hostRead a).1 = s.regWord r :=
    congrArg Prod.fst (hostRead_reg ((mask_eq_address_iff a r).1 h))
  have hnat {r : Reg} {n : Nat} (h : a &&& 0xFFC#12 = r.address) (hr : (s.regWord r).toNat = n) :
      (s.hostRead a).1.toNat = n := (congrArg BitVec.toNat (hreg r h)).trans hr
  refine ⟨(s.hostRead a).1, step_read_of_no_effect hs hmapped haout rfl,
    hreg .id, fun h => (hreg .ctrl h).trans (ctrlWord_eq s), fun h => hreg .status h ▸ statusWord_fields s,
    fun h => h.elim (hreg .cmd) (hreg .ainData), fun h => hreg .err h ▸ errWord_fields s.err,
    fun h => hnat (r := .irqStatus) h (toNat_zero_append 25 _),
    fun h => hnat (r := .irqEnable) h (toNat_zero_append 25 _), hreg .sampleRate, hreg .syncWord,
    fun h => hnat (r := .rxCfg) h (rxCfgWord_toNat s.rxCfg), fun h => hnat (r := .gfA) h (toNat_zero_append 24 _),
    fun h => hnat (r := .gfB) h (toNat_zero_append 24 _), fun h => hnat (r := .gfR) h (toNat_zero_append 24 _),
    fun h => hreg .rsResult h ▸ rsResultWord_fields s.rsResult,
    fun h => hreg .rxResult h ▸ rxResultWord_fields s.rxResult,
    fun h => hnat (r := .rxStats0) h (toNat_append_eq_add _ _),
    fun h => hnat (r := .rxStats1) h (toNat_append_eq_add _ _),
    fun h => hnat (r := .rxOvr) h (toNat_zero_append 16 _), hreg .rxSamples,
    fun h => hreg .diag h ▸ diagWord_fields s, fun h => hreg .fifoLevel h ▸ fifoLevelWord_fields s,
    fun h => hreg .txStat h ▸ txStatWord_fields s, hostRead_last_txf s, fun hlow hne i hi => ?_⟩
  obtain ⟨b, w, ha⟩ := exists_target_word hmapped hlow
  exact hostRead_word_bytes s ha hne hi

end Sys2Proof.Machine

/-! The effects of register writes (47_register_access.md R653 to R661), each the effect on the register its address
reaches, and NOP (R665). -/

namespace Sys2Proof.Machine

/-- A write at a register's address, bits 1:0 ignored, is the write of the register. -/
theorem step_write_reg {s : State} {a : Addr} {v : Word} {rest : List Action} (r : Reg)
    (hs : s.schedule = .write a v :: rest) (ha : a &&& 0xFFC#12 = r.address) :
    step s = State.writeReg { s with schedule := rest } r v := by
  rw [step_write hs, hostWrite_reg ((mask_eq_address_iff a r).1 ha)]

/-! ### CTRL -/

theorem writeCtrl_opens {s : State} {v : Word} (hclosed : s.rxEn = false) (hv : v.getLsbD 0 = true) :
    s.writeCtrl v = State.openSession { s with rxEn := true } := by
  simp only [State.writeCtrl, hclosed, hv]

theorem writeCtrl_closes {s : State} {v : Word} (hopen : s.rxEn = true) (hv : v.getLsbD 0 = false) :
    s.writeCtrl v = State.closeSession { s with rxEn := false } := by
  simp only [State.writeCtrl, hopen, hv]

theorem writeCtrl_unchanged {s : State} {v : Word} (hv : v.getLsbD 0 = s.rxEn) : s.writeCtrl v = s := by
  cases hrx : s.rxEn <;> simp only [State.writeCtrl, hrx, hv]

/-- Settles O34: the three cases of RX_EN; opening is what RX_RESET does to an open session. -/
theorem ctrlWriteOpensAndClosesTheSession : Obligations.CtrlWriteOpensAndClosesTheSession := by
  intro s a v rest hs ha
  rw [step_write_reg .ctrl hs ha]
  refine ⟨fun hclosed hv => ?_, fun hopen hv => ?_, fun hv => ?_⟩
  · exact ⟨_, congrArg Host.Outcome.next (writeCtrl_opens hclosed hv), rfl, exec_rxReset _⟩
  · exact congrArg Host.Outcome.next (writeCtrl_closes hopen hv)
  · exact congrArg Host.Outcome.next (writeCtrl_unchanged hv)

/-! ### SAMPLE_RATE and RX_CFG -/

theorem writeSampleRate_busy {s : State} {v : Word} (hbusy : s.tx.active = true ∨ s.rxEn = true) :
    s.writeSampleRate v = s.raiseError .configBusy := if_pos hbusy

/-- With neither unit running the range of the value decides. -/
theorem writeSampleRate_idle {s : State} {v : Word} (hidle : s.tx.active = false) (hclosed : s.rxEn = false) :
    s.writeSampleRate v =
      if v.toNat < Config.minRate ∨ Config.maxRate < v.toNat then s.raiseError .badValue
      else { s with sampleRate := v } := if_neg (by simp [hidle, hclosed])

theorem writeRxCfg_open {s : State} {v : Word} (hopen : s.rxEn = true) :
    s.writeRxCfg v = s.raiseError .configBusy := if_pos hopen

/-- With no session open LOCK_RATIO decides. -/
theorem writeRxCfg_closed {s : State} {v : Word} (hclosed : s.rxEn = false) :
    s.writeRxCfg v =
      if Config.maxLockRatio < (v.extractLsb' 4 4).toNat then s.raiseError .badValue
      else { s with rxCfg := { syncTol := v.extractLsb' 0 2, lockRatio := v.extractLsb' 4 4 } } :=
  if_neg (by simp [hclosed])

/-- Settles O54: the busy test comes first, then the test of the value. -/
theorem configurationWritesAreGuarded : Obligations.ConfigurationWritesAreGuarded := by
  rintro s a v rest s' rfl hs
  refine ⟨fun ha => ?_, fun ha => ?_⟩
  · rw [step_write_reg .sampleRate hs ha]
    refine ⟨fun hbusy => ?_, fun hidle hclosed hv => ?_, fun hidle hclosed hmin hmax => ?_⟩
    · exact congrArg Host.Outcome.next (writeSampleRate_busy hbusy)
    · exact congrArg Host.Outcome.next (Eq.trans (writeSampleRate_idle hidle hclosed) (if_pos hv))
    · have hlegal : ¬ (v.toNat < Config.minRate ∨ Config.maxRate < v.toNat) :=
        not_or.2 ⟨Nat.not_lt.2 hmin, Nat.not_lt.2 hmax⟩
      exact congrArg Host.Outcome.next (Eq.trans (writeSampleRate_idle hidle hclosed) (if_neg hlegal))
  · rw [step_write_reg .rxCfg hs ha]
    refine ⟨fun hopen => ?_, fun hclosed hratio => ?_, fun hclosed hratio => ?_⟩
    · exact congrArg Host.Outcome.next (writeRxCfg_open hopen)
    · exact congrArg Host.Outcome.next (Eq.trans (writeRxCfg_closed hclosed) (if_pos hratio))
    · exact congrArg Host.Outcome.next (Eq.trans (writeRxCfg_closed hclosed) (if_neg (Nat.not_lt.2 hratio)))

/-! ### The plain writes -/

/-- The low bits of a word, as the operand writes take them. -/
theorem extractLsb'_zero_eq_ofNat_mod (v : Word) (n : Nat) :
    v.extractLsb' 0 n = BitVec.ofNat n (v.toNat % 2 ^ n) := by
  apply BitVec.eq_of_toNat_eq
  simp

/-- Writing 1 to an IRQ_STATUS bit clears it, writing 0 keeps it. -/
theorem getLsbD_clearedBy (q : BitVec 7) (v : Word) {i : Nat} (hi : i < 7) :
    (q &&& ~~~(v.extractLsb' 0 7)).getLsbD i = (q.getLsbD i && !v.getLsbD i) := by
  simp [hi]

theorem writeRxResult_eq (s : State) (v : Word) :
    s.writeRxResult v = { s with rxResult := { s.rxResult with
      valid := if v.getLsbD 0 then false else s.rxResult.valid,
      lost := if v.getLsbD 16 then false else s.rxResult.lost } } := by
  rw [State.writeRxResult]
  cases v.getLsbD 0 <;> cases v.getLsbD 16 <;> simp

/-- Settles O55: each clause is the write of the register at its address. -/
theorem plainWritesChangeOnlyTheirBits : Obligations.PlainWritesChangeOnlyTheirBits := by
  rintro s a v rest s' rfl hs
  have hreg (r : Reg) (ha : a &&& 0xFFC#12 = r.address) := step_write_reg r hs ha
  refine ⟨hreg .err, fun ha => ⟨_, hreg .irqStatus ha, fun i hi => getLsbD_clearedBy _ v hi⟩, fun ha => ?_,
    hreg .rxStats0, hreg .rxStats1, hreg .rxOvr, fun ha => ?_, fun ha => ?_, fun ha => ?_⟩
  · exact (hreg .rxResult ha).trans (congrArg Host.Outcome.next (writeRxResult_eq _ v))
  · rw [hreg .gfA ha, State.writeReg, extractLsb'_zero_eq_ofNat_mod]
    rfl
  · rw [hreg .gfB ha, State.writeReg, extractLsb'_zero_eq_ofNat_mod]
    rfl
  · rw [hreg .irqEnable ha, State.writeReg, extractLsb'_zero_eq_ofNat_mod]
    rfl

/-! ### NOP -/

/-- Settles O58: 0x00000100 has a reserved bit set, so it is not legal. -/
theorem nopChangesNothing : Obligations.NopChangesNothing := by
  refine ⟨rfl, fun _ => rfl, fun i hi => ?_⟩
  obtain ⟨hrsv, -⟩ := exists_decode_eq_ok_iff.1 ⟨i, hi⟩
  exact absurd hrsv (by decide)

end Sys2Proof.Machine

/-! Errors and resets: no turn stops the block, the first error is the one kept (60_exceptions.md R701, R702), and either
reset restores every value (70_reset_and_hazards.md R750; 47_register_access.md R666). -/

namespace Sys2Proof.Machine

/-! ### Errors -/

/-- Settles O5: the turn a step performs answers a next state, and a block with no turn to perform stays as it is. -/
theorem everyStepAnswersANextState : Obligations.EveryStepAnswersANextState := by
  intro s
  rcases step_cases s with ⟨a, rest, -, hperform⟩ | ⟨-, -, htx⟩ | ⟨-, -, -, hrx⟩ | ⟨-, -, -, hidle⟩
  · obtain ⟨t, ht, -⟩ := perform_cases { s with schedule := rest } a
    exact ⟨t, hperform.trans ht⟩
  · exact ⟨_, htx⟩
  · exact ⟨_, hrx⟩
  · exact ⟨_, hidle⟩

/-- Settles O56: the two branches of recording an error. -/
theorem firstErrorWins : Obligations.FirstErrorWins := by
  refine fun s c => ⟨fun hfirst => ?_, fun hlater => ?_⟩
  · rw [raiseError_eq, if_pos hfirst]
  · rw [raiseError_eq, if_neg hlater]

/-! ### Resets -/

/-- What a reset restores, and the two fields outside the block that it leaves (log entry 9). -/
theorem resetBlock_eq (s : State) :
    s.resetBlock = { State.reset with schedule := s.schedule, reads := s.reads } := rfl

theorem exec_softReset (s : State) : exec .softReset s = .next s.resetBlock := rfl

theorem step_hardReset {s : State} {rest : List Action} (hs : s.schedule = .hardReset :: rest) :
    step s = .next (State.resetBlock { s with schedule := rest }) := by
  rw [step_of_schedule hs, Action.Resets.hardReset.perform]

/-- Settles O59: the command and the reset input both reset the block. -/
theorem resetRestoresEveryValue : Obligations.ResetRestoresEveryValue := by
  refine ⟨rfl, fun s rest => ⟨?_, fun hs => ?_⟩⟩
  · rw [exec_softReset, resetBlock_eq]
  · rw [step_hardReset hs, resetBlock_eq]

end Sys2Proof.Machine
